-- ==== Sys2Proof/Word.lean ====
section
/-! DEFINITION. The word types of the CRSF engine: bytes, timestamps, 11-bit channels (spec 00_scope.md R6, R7). -/

namespace Sys2Proof

/-- An unsigned integer 0..255 (R7). -/
abbrev Byte := BitVec 8

/-- A timestamp in ticks of the `now` input, `TS_WIDTH` = 64 bits, unsigned, arithmetic modulo 2^64 (R6, R119). -/
abbrev Timestamp := BitVec 64

/-- One RC channel value, `CHAN_BITS` = 11 bits, 0..2047 (R6, R99). -/
abbrev Channel := BitVec 11

/-- "16 ordered channel values" (R103): `ch[0]` .. `ch[15]`. -/
abbrev ChannelSet := Vector Channel 16

end Sys2Proof
end

