-- ==== Sys2Proof/Machine/Flags.lean ====
section
/-! DEFINITION. The flag computations of the engine (43_link_tracker.md): the timestamp comparator and the edge detector's
test. There are no arithmetic condition codes (10_state.md R21). -/

namespace Sys2Proof.Machine

/-- `(now - last_rx) mod 2^64` (R112, R119). -/
def elapsed (lastRx now : Timestamp) : Timestamp := now - lastRx

/-- `IS_CONNECTED(now) = (link_up = 1) and (((now - last_rx) mod 2^64) < CONNECTION_TIMEOUT)`, the comparison unsigned and
strict (R112). While `link_up = 0` it is false without reading `last_rx`. -/
def linkAlive (timeout : Timestamp) (linkUp : Bool) (lastRx now : Timestamp) : Bool :=
  linkUp && (elapsed lastRx now).ult timeout

/-- The edge: `link_up = 1 and not IS_CONNECTED(now)` (R113). -/
def linkExpired (timeout : Timestamp) (linkUp : Bool) (lastRx now : Timestamp) : Bool :=
  linkUp && !linkAlive timeout linkUp lastRx now

end Sys2Proof.Machine
end

