-- ==== Sys2Proof/Machine/Params.lean ====
section
/-! DEFINITION. The FIXED parameters of the engine (spec 00_scope.md R6); the open ones are in Config.lean. -/

namespace Sys2Proof.Machine

/-- `MAX_FRAME_SIZE`: the largest whole frame in bytes (R6; the spec's decision D4). -/
def maxFrameSize : Nat := 64

/-- `CAP`: the capacity of the reassembly buffer, `MAX_FRAME_SIZE` (R6, R11). -/
def cap : Nat := maxFrameSize

/-- `LEN_MIN`: the smallest legal `length` byte (R6, R48). -/
def lenMin : Nat := 3

/-- `LEN_MAX` = `MAX_FRAME_SIZE - 2`: the largest legal `length` byte (R6, R48). -/
def lenMax : Nat := maxFrameSize - 2

/-- The module's address, which is also `ENC_ADDR`, the address of every encoded frame (R6, R47, R122). -/
def addrModule : Byte := 0xEE

/-- The radio transmitter's address (R47). -/
def addrRadio : Byte := 0xEA

/-- The flight controller's address (R47). -/
def addrFlightController : Byte := 0xC8

/-- `CC_TYPE`: the type code of customer-command frames (R49). -/
def ccType : Byte := 0x31

/-- The default of the open parameter `RC_TYPE` (R49; the spec takes the value from general knowledge, decision D6). -/
def rcTypeDefault : Byte := 0x16

/-- The `length` byte of an RC-channels frame: `RC_PAYLOAD_LEN` = 22 payload bytes, one type, one crc (R54, R97). -/
def rcLength : Byte := 24

/-- `CRC_POLY`: the low eight coefficients of the generator polynomial (R66). -/
def crcPoly : Byte := 0xD5

/-- `CRC_INIT`: the CRC's initial value (R66; decision D5). -/
def crcInit : Byte := 0x00

end Sys2Proof.Machine
end

