-- ==== Sys2Proof/Config.lean ====
section
/-! DEFINITION. The OPEN parameters of an engine instance (spec 00_scope.md R6, 10_state.md R17) and the free values
of the model. The spec makes the configuration an argument of the step function; the host's `step` takes a state alone, so
`Machine.State` carries the instance's configuration, which nothing changes (assumption 1). -/

namespace Sys2Proof

/-- The configuration of one engine instance: "fixed for the life of an engine instance", "not changed by any operation
or by reset" (R17); each instance has its own (R160). -/
structure Config where
  /-- `CONNECTION_TIMEOUT` in ticks, 0 ≤ value < 2^64 (R6, R110, R179). -/
  connectionTimeout : Timestamp
  /-- `RC_TYPE`, the type code of RC-channels frames (R6, R49). -/
  rcType : Byte
  /-- `TICK`, the duration of one timestamp tick in a unit the platform names: "no rule depends on it" (R6). -/
  tick : Nat
  deriving DecidableEq, Repr

/-- The one constraint on the configuration: "`RC_TYPE` is a byte different from `CC_TYPE` = 0x31" (R179, R49). -/
def Config.wf (c : Config) : Bool := c.rcType != Machine.ccType

/-- OPEN value of `CONNECTION_TIMEOUT` in the reset state: the spec gives none (R6, decision D10). No body (assumption 2). -/
opaque Config.openTimeout : Timestamp

/-- OPEN value of `TICK` in the reset state: the spec gives none (R6, decision D9). No body (assumption 2). -/
opaque Config.openTick : Nat

/-- FREE VALUE: what `last_rx` holds after the n-th reset, "unspecified" (R20, R165). No body (assumption 3). -/
opaque Config.unspecifiedTime : Nat → Timestamp

/-- The configuration in `State.reset`: both parameters the spec leaves without a value stay open; `RC_TYPE` has the
spec's default (R6, assumption 2). -/
def Config.initial : Config :=
  { connectionTimeout := Config.openTimeout, rcType := Machine.rcTypeDefault, tick := Config.openTick }

end Sys2Proof
end

