-- ==== Sys2Proof/Machine/Types.lean ====
section
/-! DEFINITION. The values that move through the engine: frames, customer commands, decoded events, outward events,
internal causes, turns of the parse loop (spec 30_encoding.md R45, R53, R58, 42_decoder.md R103, 60_exceptions.md R147). -/

namespace Sys2Proof.Machine

/-- A frame `[address][length][type][payload: length-2 bytes][crc]` (R45). -/
structure Frame where
  address : Byte
  length : Byte
  type : Byte
  payload : List Byte
  crc : Byte
  deriving DecidableEq, Repr

/-- The eight customer commands (R53). -/
inductive CustomerCommand where
  | enterWifi | enterBind | receiveData | setStatus | reconnect | disconnect | queryBinding | queryUartLinked
  deriving DecidableEq, Repr

/-- The two forms of `DecodedEvent` (R103). -/
inductive DecodedEvent where
  | channels (ch : ChannelSet)
  | command (cmd : CustomerCommand)
  deriving DecidableEq, Repr

/-- The five kinds of event, an operation's ordered output (R58). -/
inductive Event where
  /-- A validated frame crossing from the reassembler to the decoder, emitted by ACCEPT. -/
  | evFrame (f : Frame)
  /-- The frame-received notification. -/
  | notifyChannels (ch : ChannelSet)
  /-- The customer-command notification. -/
  | notifyCommand (cmd : CustomerCommand)
  /-- The disconnect notification. -/
  | notifyDisconnect
  /-- One byte to write to the transport. -/
  | txByte (b : Byte)
  deriving DecidableEq, Repr

/-- Why a byte was discarded, a frame ignored or an encode refused (R147). Internal: no output of the hardware (R146). -/
inductive Cause where
  | badAddress (b : Byte)
  | badLength (b : Byte)
  | badCrc (expected got : Byte)
  | overflow
  | unknownType (t : Byte)
  | unknownSubcommand (c : Byte)
  | badRcLength (len : Byte)
  | encodeRefused (c : Byte)
  deriving DecidableEq, Repr

/-- The micro-step that one turn of `PARSE` selects (R77, R60 level 1). -/
inductive Turn where
  | waitHdr | dropAddr | dropLen | waitBody | accept | dropCrc
  deriving DecidableEq, Repr

/-- What an operation returns beside its events: the answer of IS_CONNECTED (also POLL's, R134) or the value of a pure
CRC function (R68, R69, R70). -/
inductive Result where
  | connected (b : Bool)
  | crcByte (b : Byte)
  | crcValid (b : Bool)
  deriving DecidableEq, Repr

end Sys2Proof.Machine
end

