-- ==== Sys2Proof/Syntax.lean ====
section
/-! DEFINITION. The instructions: one constructor per row of spec/opcode_table.json, in the table's order. For this
hardware they are the host operations, their micro-steps, the CRC functions, the received frame kinds and the
transmitted frames (spec INDEX.md, 30_encoding.md R57, R61). -/

namespace Sys2Proof

inductive Instr where
  -- HOSTOP: the host operations (R57)
  | nop
  | rxByte (b : Byte) (now : Timestamp)
  | poll (now : Timestamp)
  | setUart (v : Bool)
  | encode (c : Byte)
  | reset
  | reserved6
  | reserved7
  -- PSEUDO (R62, R136)
  | feed (bytes : List Byte) (now : Timestamp)
  -- MICRO: the reassembler's micro-steps (41_reassembler.md)
  | append (b : Byte)
  | dropOvf
  | waitHdr
  | dropAddr
  | dropLen
  | waitBody
  | accept
  | dropCrc
  -- MICRO: the tracker's internal steps (43_link_tracker.md)
  | noteFrame (now : Timestamp)
  | isConnected (now : Timestamp)
  | timecheck (now : Timestamp)
  -- FUNC: the pure CRC functions (40_crc8.md)
  | crc8Step (acc b : Byte)
  | crc8Compute (m : List Byte)
  | crc8Verify (m : List Byte) (e : Byte)
  -- RXFRAME: the kinds of a validated frame (42_decoder.md); the operands are the frame's bytes that the row leaves open
  | rcChannels (address : Byte) (payload : List Byte) (crc : Byte)
  | ccEnterWifi (address length : Byte) (rest : List Byte) (crc : Byte)
  | ccEnterBind (address length : Byte) (rest : List Byte) (crc : Byte)
  | ccReceiveData (address length : Byte) (rest : List Byte) (crc : Byte)
  | ccSetStatus (address length : Byte) (rest : List Byte) (crc : Byte)
  | ccReconnect (address length : Byte) (rest : List Byte) (crc : Byte)
  | ccDisconnect (address length : Byte) (rest : List Byte) (crc : Byte)
  | ccQueryBinding (address length : Byte) (rest : List Byte) (crc : Byte)
  | ccQueryUartLinked (address length : Byte) (rest : List Byte) (crc : Byte)
  | rcBadLen (address length : Byte) (payload : List Byte) (crc : Byte)
  | ccUnknown (address length code : Byte) (rest : List Byte) (crc : Byte)
  | otherType (address length type : Byte) (payload : List Byte) (crc : Byte)
  -- TXFRAME: the eight transmitted frames (44_encoder.md)
  | txEnterWifi
  | txEnterBind
  | txReceiveData
  | txSetStatus
  | txReconnect
  | txDisconnect
  | txQueryBinding
  | txQueryUartLinked
  deriving DecidableEq, Repr

end Sys2Proof
end

