-- ==== Sys2Proof/Machine/Operands.lean ====
section
/-! DEFINITION. Operand forms: the CRC table and the CRC functions (40_crc8.md), the fields of a candidate in the buffer
(30_encoding.md R46), the test chain of the parse loop (41_reassembler.md R77), the payload decoder (42_decoder.md), the
bytes the encoder builds (44_encoder.md R122). Pure functions of bytes; none reads or writes State. -/

namespace Sys2Proof.Machine

/-- Row 0x of the CRC table (R67). -/
def romRow0 : List Byte :=
  [0x00, 0xD5, 0x7F, 0xAA, 0xFE, 0x2B, 0x81, 0x54, 0x29, 0xFC, 0x56, 0x83, 0xD7, 0x02, 0xA8, 0x7D]

/-- Row 1x of the CRC table (R67). -/
def romRow1 : List Byte :=
  [0x52, 0x87, 0x2D, 0xF8, 0xAC, 0x79, 0xD3, 0x06, 0x7B, 0xAE, 0x04, 0xD1, 0x85, 0x50, 0xFA, 0x2F]

/-- Row 2x of the CRC table (R67). -/
def romRow2 : List Byte :=
  [0xA4, 0x71, 0xDB, 0x0E, 0x5A, 0x8F, 0x25, 0xF0, 0x8D, 0x58, 0xF2, 0x27, 0x73, 0xA6, 0x0C, 0xD9]

/-- Row 3x of the CRC table (R67). -/
def romRow3 : List Byte :=
  [0xF6, 0x23, 0x89, 0x5C, 0x08, 0xDD, 0x77, 0xA2, 0xDF, 0x0A, 0xA0, 0x75, 0x21, 0xF4, 0x5E, 0x8B]

/-- Row 4x of the CRC table (R67). -/
def romRow4 : List Byte :=
  [0x9D, 0x48, 0xE2, 0x37, 0x63, 0xB6, 0x1C, 0xC9, 0xB4, 0x61, 0xCB, 0x1E, 0x4A, 0x9F, 0x35, 0xE0]

/-- Row 5x of the CRC table (R67). -/
def romRow5 : List Byte :=
  [0xCF, 0x1A, 0xB0, 0x65, 0x31, 0xE4, 0x4E, 0x9B, 0xE6, 0x33, 0x99, 0x4C, 0x18, 0xCD, 0x67, 0xB2]

/-- Row 6x of the CRC table (R67). -/
def romRow6 : List Byte :=
  [0x39, 0xEC, 0x46, 0x93, 0xC7, 0x12, 0xB8, 0x6D, 0x10, 0xC5, 0x6F, 0xBA, 0xEE, 0x3B, 0x91, 0x44]

/-- Row 7x of the CRC table (R67). -/
def romRow7 : List Byte :=
  [0x6B, 0xBE, 0x14, 0xC1, 0x95, 0x40, 0xEA, 0x3F, 0x42, 0x97, 0x3D, 0xE8, 0xBC, 0x69, 0xC3, 0x16]

/-- Row 8x of the CRC table (R67). -/
def romRow8 : List Byte :=
  [0xEF, 0x3A, 0x90, 0x45, 0x11, 0xC4, 0x6E, 0xBB, 0xC6, 0x13, 0xB9, 0x6C, 0x38, 0xED, 0x47, 0x92]

/-- Row 9x of the CRC table (R67). -/
def romRow9 : List Byte :=
  [0xBD, 0x68, 0xC2, 0x17, 0x43, 0x96, 0x3C, 0xE9, 0x94, 0x41, 0xEB, 0x3E, 0x6A, 0xBF, 0x15, 0xC0]

/-- Row Ax of the CRC table (R67). -/
def romRowA : List Byte :=
  [0x4B, 0x9E, 0x34, 0xE1, 0xB5, 0x60, 0xCA, 0x1F, 0x62, 0xB7, 0x1D, 0xC8, 0x9C, 0x49, 0xE3, 0x36]

/-- Row Bx of the CRC table (R67). -/
def romRowB : List Byte :=
  [0x19, 0xCC, 0x66, 0xB3, 0xE7, 0x32, 0x98, 0x4D, 0x30, 0xE5, 0x4F, 0x9A, 0xCE, 0x1B, 0xB1, 0x64]

/-- Row Cx of the CRC table (R67). -/
def romRowC : List Byte :=
  [0x72, 0xA7, 0x0D, 0xD8, 0x8C, 0x59, 0xF3, 0x26, 0x5B, 0x8E, 0x24, 0xF1, 0xA5, 0x70, 0xDA, 0x0F]

/-- Row Dx of the CRC table (R67). -/
def romRowD : List Byte :=
  [0x20, 0xF5, 0x5F, 0x8A, 0xDE, 0x0B, 0xA1, 0x74, 0x09, 0xDC, 0x76, 0xA3, 0xF7, 0x22, 0x88, 0x5D]

/-- Row Ex of the CRC table (R67). -/
def romRowE : List Byte :=
  [0xD6, 0x03, 0xA9, 0x7C, 0x28, 0xFD, 0x57, 0x82, 0xFF, 0x2A, 0x80, 0x55, 0x01, 0xD4, 0x7E, 0xAB]

/-- Row Fx of the CRC table (R67). -/
def romRowF : List Byte :=
  [0x84, 0x51, 0xFB, 0x2E, 0x7A, 0xAF, 0x05, 0xD0, 0xAD, 0x78, 0xD2, 0x07, 0x53, 0x86, 0x2C, 0xF9]

/-- `ROM`: the 256-entry table `T`, a constant of the hardware (R32, R67). -/
def rom : List Byte :=
  romRow0 ++ romRow1 ++ romRow2 ++ romRow3 ++ romRow4 ++ romRow5 ++ romRow6 ++ romRow7 ++
  romRow8 ++ romRow9 ++ romRowA ++ romRowB ++ romRowC ++ romRowD ++ romRowE ++ romRowF

/-- `RomRead(i)` = `T[i]` (R7, R32); every index 0..255 is in the table. -/
def romRead (i : Byte) : Byte := rom.getD i.toNat 0

/-- One shift of the bit-serial register: `((c << 1) xor 0xD5) & 0xFF` if `c[7] = 1`, else `(c << 1) & 0xFF` (R66). -/
def crcShift (c : Byte) : Byte := if c.msb then (c <<< 1) ^^^ crcPoly else c <<< 1

/-- `n` shifts of the bit-serial register (R66's inner loop). -/
def crcShifts : Nat → Byte → Byte
  | 0, c => c
  | n + 1, c => crcShifts n (crcShift c)

/-- `crc_bitwise(m)`: the bit-serial definition of the checksum, most significant bit first (R66). The engine does not run
it: it is what the table is computed from. -/
def crcBitwise (m : List Byte) : Byte := m.foldl (fun c b => crcShifts 8 (c ^^^ b)) crcInit

/-- `CRC8.STEP acc, b` = `T[acc xor b]` (R70). -/
def crc8Step (acc b : Byte) : Byte := romRead (acc ^^^ b)

/-- `CRC8(m)`: the fold of CRC8.STEP over the bytes from 0x00 (R68). -/
def crc8 (m : List Byte) : Byte := m.foldl crc8Step crcInit

/-- `CRC8_VERIFY(m, e) = (CRC8(m) = e)` (R69). -/
def crc8Verify (m : List Byte) (e : Byte) : Bool := crc8 m == e

/-- `buf[i]` (R7). No rule reads a cell at an index `>= cnt` (R23): the 0 that such a read would give here reaches no
decision of the engine. -/
def cell (buf : List Byte) (i : Nat) : Byte := buf.getD i 0

/-- `MemRead(addr, n)`: the `n` cells `buf[addr] .. buf[addr+n-1]` in index order (R7). -/
def memRead (buf : List Byte) (addr n : Nat) : List Byte := (buf.drop addr).take n

/-- `a in ADDRS` = {0xEE, 0xEA, 0xC8} (R6, R47). -/
def isRecognized (a : Byte) : Bool := a == addrModule || a == addrRadio || a == addrFlightController

/-- 3 ≤ `L` ≤ 62 (R48). -/
def lengthOk (len : Byte) : Bool := decide (lenMin ≤ len.toNat) && decide (len.toNat ≤ lenMax)

/-- The bytes of a frame in transmission order (R33, R45). -/
def Frame.wire (f : Frame) : List Byte := f.address :: f.length :: f.type :: (f.payload ++ [f.crc])

/-- What a validated frame is: a recognized address, a legal length, a payload of `length - 2` bytes, and the crc of
`type || payload` (R45, R47, R48, R51). -/
def Frame.valid (f : Frame) : Bool :=
  isRecognized f.address && lengthOk f.length && decide (f.payload.length + 2 = f.length.toNat) &&
    crc8Verify (f.type :: f.payload) f.crc

/-- The size `2 + L` of the candidate at the front of the buffer (R46, R52). -/
def candidateSize (buf : List Byte) : Nat := 2 + (cell buf 1).toNat

/-- The fields of the candidate at the front of the buffer: `address = buf[0]`, `length = L = buf[1]`, `type = buf[2]`,
`payload = MemRead(3, L-2)`, `crc = buf[L+1]` (R46, R81). -/
def frameAt (buf : List Byte) : Frame :=
  { address := cell buf 0
    length := cell buf 1
    type := cell buf 2
    payload := memRead buf 3 ((cell buf 1).toNat - 2)
    crc := cell buf ((cell buf 1).toNat + 1) }

/-- `CRC8(MemRead(2, L-1))`: the computed CRC of the candidate at the front of the buffer (R77, R46). -/
def candidateCrc (buf : List Byte) : Byte := crc8 (memRead buf 2 ((cell buf 1).toNat - 1))

/-- The test chain of one turn of `PARSE`, in the order of the spec: header, address, length, body, CRC (R77, R151). -/
def parseTurn (buf : List Byte) : Turn :=
  if buf.length < 2 then .waitHdr
  else if !isRecognized (cell buf 0) then .dropAddr
  else if !lengthOk (cell buf 1) then .dropLen
  else if buf.length < candidateSize buf then .waitBody
  else if candidateCrc buf = (frameAt buf).crc then .accept
  else .dropCrc

/-- The wire code of a customer command (R53). -/
def CustomerCommand.code : CustomerCommand → Byte
  | .enterWifi => 0x01
  | .enterBind => 0x02
  | .receiveData => 0x03
  | .setStatus => 0x04
  | .reconnect => 0x05
  | .disconnect => 0x06
  | .queryBinding => 0x07
  | .queryUartLinked => 0x08

/-- `NAME(c)`: the command of a wire code; 0x00 and 0x09..0xFF name none (R53, R100). -/
def commandOfCode (c : Byte) : Option CustomerCommand :=
  if c = 0x01 then some .enterWifi
  else if c = 0x02 then some .enterBind
  else if c = 0x03 then some .receiveData
  else if c = 0x04 then some .setStatus
  else if c = 0x05 then some .reconnect
  else if c = 0x06 then some .disconnect
  else if c = 0x07 then some .queryBinding
  else if c = 0x08 then some .queryUartLinked
  else none

/-- The payload as one little-endian bitstream of 176 bits: `P = sum over k of p[k] << (8*k)` (R54, R97). -/
def payloadBits : List Byte → BitVec 176
  | [] => 0
  | b :: rest => b.setWidth 176 ||| (payloadBits rest <<< 8)

/-- `ch[i] = (P >> (11*i))[10:0]` for i in 0..15 (R97). No clamping, no scaling (R99). -/
def unpackChannels (p : List Byte) : ChannelSet :=
  Vector.ofFn fun i : Fin 16 => (payloadBits p >>> (11 * i.val)).setWidth 11

/-- `DECODE_RC(f)`: sixteen channels if `length = 24`, else no event and the cause BadRcLength (R97, R98). -/
def decodeRc (f : Frame) : Except Cause DecodedEvent :=
  if f.length = rcLength then .ok (.channels (unpackChannels f.payload)) else .error (.badRcLength f.length)

/-- `DECODE_CC(f)`: the command that `payload[0]` names, else no event and the cause UnknownSubcommand; payload bytes after
the first are ignored (R100, R101). -/
def decodeCc (f : Frame) : Except Cause DecodedEvent :=
  match commandOfCode (cell f.payload 0) with
  | some cmd => .ok (.command cmd)
  | none => .error (.unknownSubcommand (cell f.payload 0))

/-- `DECODE(f)`: dispatch on the frame's `type` only (R96). `.ok e` is the decoded event; `.error c` is the spec's `None`
with the internal cause `c` it raises (R105). -/
def decodeFrame (rcType : Byte) (f : Frame) : Except Cause DecodedEvent :=
  if f.type = rcType then decodeRc f
  else if f.type = ccType then decodeCc f
  else .error (.unknownType f.type)

/-- The five bytes `ENCODE` builds for a command: `address = module`, `length = len(type..crc)`, `type`, `payload`, `crc`
(R122). -/
def encodeCommand (cmd : CustomerCommand) : List Byte :=
  let payload := [cmd.code]
  [addrModule, BitVec.ofNat 8 (1 + payload.length + 1), ccType] ++ payload ++ [crc8 (ccType :: payload)]

/-- The outward event of a decoded event (R133). -/
def DecodedEvent.event : DecodedEvent → Event
  | .channels ch => .notifyChannels ch
  | .command cmd => .notifyCommand cmd

/-- The spec's code of an event kind, `evt_kind[2:0]` of the port sketch (R58, R142). -/
def Event.kind : Event → BitVec 3
  | .evFrame _ => 0
  | .notifyChannels _ => 1
  | .notifyCommand _ => 2
  | .notifyDisconnect => 3
  | .txByte _ => 4

/-- The three outward notifications; EvFrame and TxByte are events but not notifications (R150). -/
def Event.isNotification : Event → Bool
  | .evFrame _ => false
  | .notifyChannels _ => true
  | .notifyCommand _ => true
  | .notifyDisconnect => true
  | .txByte _ => false

/-- The spec's number of a cause (R147). -/
def Cause.number : Cause → Nat
  | .badAddress _ => 1
  | .badLength _ => 2
  | .badCrc _ _ => 3
  | .overflow => 4
  | .unknownType _ => 5
  | .unknownSubcommand _ => 6
  | .badRcLength _ => 7
  | .encodeRefused _ => 8

/-- The frame that a received-frame row stands for, its type and selecting fields put back in (R54, R55, R61); `none` for
the rows of the other formats. -/
def rxFrameOf (rcType : Byte) (i : Instr) : Option Frame :=
  match i with
  | .rcChannels a p k => some ⟨a, rcLength, rcType, p, k⟩
  | .ccEnterWifi a n r k => some ⟨a, n, ccType, 0x01 :: r, k⟩
  | .ccEnterBind a n r k => some ⟨a, n, ccType, 0x02 :: r, k⟩
  | .ccReceiveData a n r k => some ⟨a, n, ccType, 0x03 :: r, k⟩
  | .ccSetStatus a n r k => some ⟨a, n, ccType, 0x04 :: r, k⟩
  | .ccReconnect a n r k => some ⟨a, n, ccType, 0x05 :: r, k⟩
  | .ccDisconnect a n r k => some ⟨a, n, ccType, 0x06 :: r, k⟩
  | .ccQueryBinding a n r k => some ⟨a, n, ccType, 0x07 :: r, k⟩
  | .ccQueryUartLinked a n r k => some ⟨a, n, ccType, 0x08 :: r, k⟩
  | .rcBadLen a n p k => some ⟨a, n, rcType, p, k⟩
  | .ccUnknown a n c r k => some ⟨a, n, ccType, c :: r, k⟩
  | .otherType a n t p k => some ⟨a, n, t, p, k⟩
  | .nop | .rxByte _ _ | .poll _ | .setUart _ | .encode _ | .reset | .reserved6 | .reserved7 => none
  | .feed _ _ => none
  | .append _ | .dropOvf | .waitHdr | .dropAddr | .dropLen | .waitBody | .accept | .dropCrc => none
  | .noteFrame _ | .isConnected _ | .timecheck _ => none
  | .crc8Step _ _ | .crc8Compute _ | .crc8Verify _ _ => none
  | .txEnterWifi | .txEnterBind | .txReceiveData | .txSetStatus => none
  | .txReconnect | .txDisconnect | .txQueryBinding | .txQueryUartLinked => none

end Sys2Proof.Machine
end

