-- ==== Sys2Proof/Decode.lean ====
section
/-! DEFINITION. Decoding and encoding (spec 30_encoding.md). Three of the table's six formats have bits: HOSTOP, the 75-bit
operation word (R57); RXFRAME, the bytes of a received frame (R45, R61); TXFRAME, the five bytes of a transmitted frame
(R56). PSEUDO, MICRO and FUNC rows have "no bit pattern" (R61) and stand as typed lines (R8, R57). -/

namespace Sys2Proof

open Machine

/-- What stands at the engine's inputs for one step. -/
inductive Issue where
  /-- An operation word `H = op[2:0] || data[7:0] || now[63:0]` at the host port (R57). -/
  | hostop (h : BitVec 75)
  /-- The `rst` input, asserted between two operations (R142, R165). -/
  | rst
  /-- The bytes of a frame handed from the reassembler to the decoder, in wire order (R45, R61). -/
  | rxframe (bytes : List Byte)
  /-- The bytes of a frame at the encoder's output, in wire order (R56). -/
  | txframe (bytes : List Byte)
  /-- A line of a host program or a micro-step in typed form, for the rows with no bit pattern (R8, R57, R61). -/
  | line (i : Instr)
  deriving DecidableEq, Repr

/-- Why what stands at an input is no instruction. -/
inductive DecodeError where
  /-- A received frame has at least address, length, type, one payload byte and crc (R48). -/
  | shortFrame
  /-- The encoder transmits eight frames and no other bytes (R56, R126, R128). -/
  | notATransmittedFrame
  deriving DecidableEq, Repr

/-- The formats of spec/opcode_table.json (R61). -/
inductive Format where
  | hostop | pseudo | micro | func | rxframe | txframe
  deriving DecidableEq, Repr

/-- `op = H[74:72]` (R57). -/
def opField (h : BitVec 75) : BitVec 3 := h.extractLsb' 72 3

/-- `data = H[71:64]` (R57). -/
def dataField (h : BitVec 75) : Byte := h.extractLsb' 64 8

/-- `now = H[63:0]` (R57). -/
def nowField (h : BitVec 75) : Timestamp := h.extractLsb' 0 64

/-- The operation of a host word, on `op` (R57, R60); `data` bits 7..1 of SET_UART and the fields the table calls ignored
are dropped. Total: codes 6 and 7 are the reserved operations. -/
def decodeHostop (h : BitVec 75) : Instr :=
  if opField h = 0 then .nop
  else if opField h = 1 then .rxByte (dataField h) (nowField h)
  else if opField h = 2 then .poll (nowField h)
  else if opField h = 3 then .setUart ((dataField h).getLsbD 0)
  else if opField h = 4 then .encode (dataField h)
  else if opField h = 5 then .reset
  else if opField h = 6 then .reserved6
  else .reserved7

/-- The row of a frame, on `type`, then `length` or `payload[0]` (R60 levels 2 and 3, R61): `a`, `n`, `t` are its first three
bytes, `p0` is `payload[0]`, `rest` the other payload bytes, `k` its crc. -/
def rxRow (rcType a n t p0 : Byte) (rest : List Byte) (k : Byte) : Instr :=
  if t = rcType then
    if n = rcLength then .rcChannels a (p0 :: rest) k else .rcBadLen a n (p0 :: rest) k
  else if t = ccType then
    match commandOfCode p0 with
    | some .enterWifi => .ccEnterWifi a n rest k
    | some .enterBind => .ccEnterBind a n rest k
    | some .receiveData => .ccReceiveData a n rest k
    | some .setStatus => .ccSetStatus a n rest k
    | some .reconnect => .ccReconnect a n rest k
    | some .disconnect => .ccDisconnect a n rest k
    | some .queryBinding => .ccQueryBinding a n rest k
    | some .queryUartLinked => .ccQueryUartLinked a n rest k
    | none => .ccUnknown a n p0 rest k
  else .otherType a n t (p0 :: rest) k

/-- The row of a received frame's bytes; the last byte is the crc (R45). The address, length and crc checks are the
reassembler's and are not repeated (R61, R102). -/
def decodeRx (rcType : Byte) (bytes : List Byte) : Except DecodeError Instr :=
  match bytes with
  | a :: n :: t :: p0 :: b :: tail => .ok (rxRow rcType a n t p0 (b :: tail).dropLast ((b :: tail).getLastD 0))
  | _ => .error .shortFrame

/-- The row of a transmitted frame's five bytes, from the table of R56. -/
def decodeTx (bytes : List Byte) : Except DecodeError Instr :=
  if bytes = [0xEE, 0x03, 0x31, 0x01, 0xDB] then .ok .txEnterWifi
  else if bytes = [0xEE, 0x03, 0x31, 0x02, 0x71] then .ok .txEnterBind
  else if bytes = [0xEE, 0x03, 0x31, 0x03, 0xA4] then .ok .txReceiveData
  else if bytes = [0xEE, 0x03, 0x31, 0x04, 0xF0] then .ok .txSetStatus
  else if bytes = [0xEE, 0x03, 0x31, 0x05, 0x25] then .ok .txReconnect
  else if bytes = [0xEE, 0x03, 0x31, 0x06, 0x8F] then .ok .txDisconnect
  else if bytes = [0xEE, 0x03, 0x31, 0x07, 0x5A] then .ok .txQueryBinding
  else if bytes = [0xEE, 0x03, 0x31, 0x08, 0x27] then .ok .txQueryUartLinked
  else .error .notATransmittedFrame

/-- The instruction that stands at an input; total, rejecting by name. The `rst` input is the operation RESET (R165). -/
def decode (rcType : Byte) (q : Issue) : Except DecodeError Instr :=
  match q with
  | .hostop h => .ok (decodeHostop h)
  | .rst => .ok .reset
  | .rxframe bytes => decodeRx rcType bytes
  | .txframe bytes => decodeTx bytes
  | .line i => .ok i

/-- The operation word of its three fields (R57). -/
def hostWord (op : BitVec 3) (data : Byte) (now : Timestamp) : BitVec 75 := op ++ data ++ now

/-- What stands at the inputs for an instruction (R56, R57, R61): fields the table calls ignored are 0. -/
def encode (rcType : Byte) (i : Instr) : Issue :=
  match i with
  | .nop => .hostop (hostWord 0 0 0)
  | .rxByte b now => .hostop (hostWord 1 b now)
  | .poll now => .hostop (hostWord 2 0 now)
  | .setUart v => .hostop (hostWord 3 (if v then 1 else 0) 0)
  | .encode c => .hostop (hostWord 4 c 0)
  | .reset => .hostop (hostWord 5 0 0)
  | .reserved6 => .hostop (hostWord 6 0 0)
  | .reserved7 => .hostop (hostWord 7 0 0)
  | .feed bytes now => .line (.feed bytes now)
  | .append b => .line (.append b)
  | .dropOvf => .line .dropOvf
  | .waitHdr => .line .waitHdr
  | .dropAddr => .line .dropAddr
  | .dropLen => .line .dropLen
  | .waitBody => .line .waitBody
  | .accept => .line .accept
  | .dropCrc => .line .dropCrc
  | .noteFrame now => .line (.noteFrame now)
  | .isConnected now => .line (.isConnected now)
  | .timecheck now => .line (.timecheck now)
  | .crc8Step acc b => .line (.crc8Step acc b)
  | .crc8Compute m => .line (.crc8Compute m)
  | .crc8Verify m e => .line (.crc8Verify m e)
  | .rcChannels a p k => .rxframe (a :: rcLength :: rcType :: (p ++ [k]))
  | .ccEnterWifi a n r k => .rxframe (a :: n :: ccType :: 0x01 :: (r ++ [k]))
  | .ccEnterBind a n r k => .rxframe (a :: n :: ccType :: 0x02 :: (r ++ [k]))
  | .ccReceiveData a n r k => .rxframe (a :: n :: ccType :: 0x03 :: (r ++ [k]))
  | .ccSetStatus a n r k => .rxframe (a :: n :: ccType :: 0x04 :: (r ++ [k]))
  | .ccReconnect a n r k => .rxframe (a :: n :: ccType :: 0x05 :: (r ++ [k]))
  | .ccDisconnect a n r k => .rxframe (a :: n :: ccType :: 0x06 :: (r ++ [k]))
  | .ccQueryBinding a n r k => .rxframe (a :: n :: ccType :: 0x07 :: (r ++ [k]))
  | .ccQueryUartLinked a n r k => .rxframe (a :: n :: ccType :: 0x08 :: (r ++ [k]))
  | .rcBadLen a n p k => .rxframe (a :: n :: rcType :: (p ++ [k]))
  | .ccUnknown a n c r k => .rxframe (a :: n :: ccType :: c :: (r ++ [k]))
  | .otherType a n t p k => .rxframe (a :: n :: t :: (p ++ [k]))
  | .txEnterWifi => .txframe [0xEE, 0x03, 0x31, 0x01, 0xDB]
  | .txEnterBind => .txframe [0xEE, 0x03, 0x31, 0x02, 0x71]
  | .txReceiveData => .txframe [0xEE, 0x03, 0x31, 0x03, 0xA4]
  | .txSetStatus => .txframe [0xEE, 0x03, 0x31, 0x04, 0xF0]
  | .txReconnect => .txframe [0xEE, 0x03, 0x31, 0x05, 0x25]
  | .txDisconnect => .txframe [0xEE, 0x03, 0x31, 0x06, 0x8F]
  | .txQueryBinding => .txframe [0xEE, 0x03, 0x31, 0x07, 0x5A]
  | .txQueryUartLinked => .txframe [0xEE, 0x03, 0x31, 0x08, 0x27]

/-- The table's format of an instruction (R61). -/
def Instr.format : Instr → Format
  | .nop | .rxByte _ _ | .poll _ | .setUart _ | .encode _ | .reset | .reserved6 | .reserved7 => .hostop
  | .feed _ _ => .pseudo
  | .append _ | .dropOvf | .waitHdr | .dropAddr | .dropLen | .waitBody | .accept | .dropCrc => .micro
  | .noteFrame _ | .isConnected _ | .timecheck _ => .micro
  | .crc8Step _ _ | .crc8Compute _ | .crc8Verify _ _ => .func
  | .rcChannels _ _ _ => .rxframe
  | .ccEnterWifi _ _ _ _ | .ccEnterBind _ _ _ _ | .ccReceiveData _ _ _ _ | .ccSetStatus _ _ _ _ => .rxframe
  | .ccReconnect _ _ _ _ | .ccDisconnect _ _ _ _ | .ccQueryBinding _ _ _ _ | .ccQueryUartLinked _ _ _ _ => .rxframe
  | .rcBadLen _ _ _ _ | .ccUnknown _ _ _ _ _ | .otherType _ _ _ _ _ => .rxframe
  | .txEnterWifi | .txEnterBind | .txReceiveData | .txSetStatus => .txframe
  | .txReconnect | .txDisconnect | .txQueryBinding | .txQueryUartLinked => .txframe

/-- The table's mnemonic of an instruction (spec/opcode_table.json, R8). -/
def Instr.mnemonic : Instr → String
  | .nop => "NOP"
  | .rxByte _ _ => "RX_BYTE"
  | .poll _ => "POLL"
  | .setUart _ => "SET_UART"
  | .encode _ => "ENCODE"
  | .reset => "RESET"
  | .reserved6 => "RESERVED6"
  | .reserved7 => "RESERVED7"
  | .feed _ _ => "FEED"
  | .append _ => "APPEND"
  | .dropOvf => "DROP_OVF"
  | .waitHdr => "WAIT_HDR"
  | .dropAddr => "DROP_ADDR"
  | .dropLen => "DROP_LEN"
  | .waitBody => "WAIT_BODY"
  | .accept => "ACCEPT"
  | .dropCrc => "DROP_CRC"
  | .noteFrame _ => "NOTE_FRAME"
  | .isConnected _ => "IS_CONNECTED"
  | .timecheck _ => "TIMECHECK"
  | .crc8Step _ _ => "CRC8.STEP"
  | .crc8Compute _ => "CRC8.COMPUTE"
  | .crc8Verify _ _ => "CRC8.VERIFY"
  | .rcChannels _ _ _ => "RC_CHANNELS"
  | .ccEnterWifi _ _ _ _ => "CC.EnterWifi"
  | .ccEnterBind _ _ _ _ => "CC.EnterBind"
  | .ccReceiveData _ _ _ _ => "CC.ReceiveData"
  | .ccSetStatus _ _ _ _ => "CC.SetStatus"
  | .ccReconnect _ _ _ _ => "CC.Reconnect"
  | .ccDisconnect _ _ _ _ => "CC.Disconnect"
  | .ccQueryBinding _ _ _ _ => "CC.QueryBinding"
  | .ccQueryUartLinked _ _ _ _ => "CC.QueryUartLinked"
  | .rcBadLen _ _ _ _ => "RC_BADLEN"
  | .ccUnknown _ _ _ _ _ => "CC_UNKNOWN"
  | .otherType _ _ _ _ _ => "OTHER_TYPE"
  | .txEnterWifi => "TX.EnterWifi"
  | .txEnterBind => "TX.EnterBind"
  | .txReceiveData => "TX.ReceiveData"
  | .txSetStatus => "TX.SetStatus"
  | .txReconnect => "TX.Reconnect"
  | .txDisconnect => "TX.Disconnect"
  | .txQueryBinding => "TX.QueryBinding"
  | .txQueryUartLinked => "TX.QueryUartLinked"

/-- The format of what stands at an input; the `rst` input is the host port's. -/
def Issue.format : Issue → Format
  | .hostop _ => .hostop
  | .rst => .hostop
  | .rxframe _ => .rxframe
  | .txframe _ => .txframe
  | .line i => i.format

/-- The `n` bytes of a number, most significant first: the order of the table's RXFRAME and TXFRAME words (R61). -/
def bytesOfWord (n w : Nat) : List Byte := (List.range n).map fun k => BitVec.ofNat 8 (w >>> (8 * (n - 1 - k)))

/-- What the table's word `w` of `nbits` bits puts at the inputs. A word of 75 bits (80 in whole bytes) is a HOSTOP word
(R57); one of 40 bits the five bytes of a TXFRAME; one of 32 bits the first four bytes of a received frame, whose other
payload bytes and crc, above the table's bits, are 0 (R61). No other width is in the table. -/
def issueOfTableWord (nbits w : Nat) : Option Issue :=
  if nbits = 32 then
    if w < 2 ^ 32 then
      some (.rxframe (bytesOfWord 4 w ++ List.replicate (max 1 ((w >>> 16) % 256 - 2)) 0))
    else none
  else if nbits = 40 then
    if w < 2 ^ 40 then some (.txframe (bytesOfWord 5 w)) else none
  else if 75 ≤ nbits ∧ nbits ≤ 80 then
    if w < 2 ^ 75 then some (.hostop (BitVec.ofNat 75 w)) else none
  else none

/-- The instruction the decoder reads from a word of spec/opcode_table.json; the table's RXFRAME rows are given for the
default `RC_TYPE` (R61). -/
def decodeTableWord (nbits w : Nat) : Option Instr :=
  (issueOfTableWord nbits w).bind fun q => (decode rcTypeDefault q).toOption

end Sys2Proof
end

