-- ==== Sys2Proof/Machine/State.lean ====
section
/-! DEFINITION. The state of one engine instance with its host interface, the reasons a step can stop, and the state after
reset (spec 10_state.md). -/

namespace Sys2Proof.Machine

/-- No fault: "The engine never traps, faults, halts or panics" (60_exceptions.md R145, R163). No constructor, so nothing can
raise one. -/
inductive Fault where
  deriving DecidableEq, Repr

/-- Why a step is refused. -/
inductive Refusal where
  /-- Raised by a refused arm of exec, for an instruction that has no meaning yet (there is none). Safe: the model stops. -/
  | notModelled (mnemonic : String)
  /-- Raised by step when what stands at an internal input is no instruction: bytes that are no frame of the decoder's or
  of the encoder's (R48, R126, R128). No host operation leads here: every operation word decodes (R57). Safe: the model
  stops where the hardware has nothing. -/
  | undecodable (e : DecodeError)
  deriving DecidableEq, Repr

/-- One engine instance: its configuration, the architectural tuple `(buf, cnt, link_up, uart_connected, last_rx)` of
R10, and the model's own fields for the host interface, which no operation of the engine reads (assumptions 4, 5, 6). -/
structure State where
  /-- The instance's configuration (R17, R160): no step changes it. -/
  cfg : Config
  /-- The reassembly buffer and `cnt` (R11, R12): the bytes received and not yet consumed, oldest first. The cells at an index
  `>= cnt` hold no value (R23) and so are not there; `cnt` is the list's length (State.cnt). -/
  buf : List Byte
  /-- `link_up` (R13). -/
  linkUp : Bool
  /-- `uart_connected` (R14). -/
  uartConnected : Bool
  /-- `last_rx` (R15). -/
  lastRx : Timestamp
  /-- Model's own: how many free values `Config.unspecifiedTime` have been drawn (assumption 3). -/
  draws : Nat
  /-- The inputs: what the host issues, in its order, not yet taken (R130, R132, R178). -/
  pending : List Issue
  /-- The outputs: the events delivered since the start of the run, in order (R131, R178). -/
  events : List Event
  /-- The outputs: the values returned since the start of the run, in order (R68 to R70, R134, R178). -/
  results : List Result
  /-- The diagnostic trace of causes (R146): no output of the hardware. -/
  trace : List Cause
  deriving DecidableEq, Repr

/-- The state after reset (R20, R165): `cnt = 0`, `link_up = 0`, `uart_connected = 0`; `last_rx` is unspecified, a free value
(assumption 3). Nothing is issued and nothing has been delivered. -/
def State.reset : State :=
  { cfg := Config.initial
    buf := []
    linkUp := false
    uartConnected := false
    lastRx := Config.unspecifiedTime 0
    draws := 1
    pending := []
    events := []
    results := []
    trace := [] }

end Sys2Proof.Machine
end

