-- ==== Sys2Proof/Machine/Ops.lean ====
section
/-! DEFINITION. The named operations over the state: the buffer, events and causes, the discard (the nearest thing this
hardware has to taking an exception, 60_exceptions.md R152), the tracker's steps, the parse loop, the encoder, reset, and
the fetch of what the host issues. -/

namespace Sys2Proof.Machine

/-- `cnt`: the number of valid bytes in `buf` (R12). -/
def State.cnt (s : State) : Nat := s.buf.length

/-- The two read-only status outputs `link_up` and `uart_connected` (R19). -/
def State.status (s : State) : Bool × Bool := (s.linkUp, s.uartConnected)

/-- The cells of BUF that hold a value, as (index, byte) pairs (R11, R30). -/
def State.cells (s : State) : List Host.Cell := s.buf.zipIdx.map fun p => (p.2, p.1)

/-- The canonical form of a memory's cells: indexes strictly rising and below `CAP` (R30). -/
def Memory.wf (m : List Host.Cell) : Bool :=
  decide (m.Pairwise fun x y => x.1 < y.1) && m.all fun x => decide (x.1 < cap)

/-- `emit E`: append an event to the ordered output (R131). -/
def State.emit (s : State) (e : Event) : State := { s with events := s.events ++ [e] }

/-- `raise <Cause>(info)`: record a cause in the diagnostic trace; nothing else (R146). -/
def State.raise (s : State) (c : Cause) : State := { s with trace := s.trace ++ [c] }

/-- `return v`: hand a value to the host (R68 to R70, R134). -/
def State.respond (s : State) (r : Result) : State := { s with results := s.results ++ [r] }

/-- A discard: record the cause and remove one byte from the front; "saves nothing, changes no mode, masks nothing" (R152).
There is no return from it: the loop goes on (R153). -/
def State.discard (s : State) (c : Cause) : State := { s with buf := s.buf.drop 1, trace := s.trace ++ [c] }

/-- DROP_OVF (R83). -/
def State.dropOvf (s : State) : State := s.discard .overflow

/-- APPEND(b): `if cnt = CAP then DROP_OVF()`; `buf[cnt] <- b`; `cnt <- cnt + 1` (R76). -/
def State.append (s : State) (b : Byte) : State :=
  let s' := if s.cnt = cap then s.dropOvf else s
  { s' with buf := s'.buf ++ [b] }

/-- DROP_ADDR (R78). -/
def State.dropAddr (s : State) : State := s.discard (.badAddress (cell s.buf 0))

/-- DROP_LEN: only `buf[0]` is removed; the cause records `buf[1]` (R79). -/
def State.dropLen (s : State) : State := s.discard (.badLength (cell s.buf 1))

/-- DROP_CRC: only `buf[0]` is removed; the cause records the computed and the received crc (R82). -/
def State.dropCrc (s : State) : State := s.discard (.badCrc (candidateCrc s.buf) (frameAt s.buf).crc)

/-- ACCEPT: remove `2 + L` bytes from the front and emit EvFrame of the candidate (R81). -/
def State.accept (s : State) : State :=
  { s with buf := s.buf.drop (candidateSize s.buf), events := s.events ++ [.evFrame (frameAt s.buf)] }

/-- NOTE_FRAME(now): `last_rx <- now`; `link_up <- 1` (R111). -/
def State.noteFrame (s : State) (now : Timestamp) : State := { s with lastRx := now, linkUp := true }

/-- IS_CONNECTED(now), a pure function of the state (R112). -/
def State.isConnected (s : State) (now : Timestamp) : Bool :=
  linkAlive s.cfg.connectionTimeout s.linkUp s.lastRx now

/-- TIMECHECK(now): on the edge `link_up <- 0` and emit Notify.Disconnect; `last_rx` stays (R113). -/
def State.timecheck (s : State) (now : Timestamp) : State :=
  if linkExpired s.cfg.connectionTimeout s.linkUp s.lastRx now then
    { s with linkUp := false, events := s.events ++ [.notifyDisconnect] }
  else s

/-- What RX_BYTE does with the decoder's answer: a decoded event is emitted as a notification; `None` emits nothing and its
cause is recorded (R133, R105). -/
def State.deliver (s : State) (d : Except Cause DecodedEvent) : State :=
  match d with
  | .ok e => s.emit e.event
  | .error c => s.raise c

/-- DECODE of a frame and the delivery of its event (R96, R133). -/
def State.notify (s : State) (f : Frame) : State := s.deliver (decodeFrame s.cfg.rcType f)

/-- What RX_BYTE does for one accepted frame: ACCEPT (which emits EvFrame), NOTE_FRAME, DECODE and the notification, in this
order (R133). -/
def State.takeFrame (s : State) (now : Timestamp) : State :=
  (s.accept.noteFrame now).notify (frameAt s.buf)

/-- `PARSE()` inside RX_BYTE: the test chain is repeated until a `stop` (R77). The first argument bounds the turns, so that
the recursion is structural; State.parse gives it the bound of R84. -/
def State.parseLoop (now : Timestamp) : Nat → State → State
  | 0, s => s
  | n + 1, s =>
    match parseTurn s.buf with
    | .waitHdr => s
    | .dropAddr => State.parseLoop now n s.dropAddr
    | .dropLen => State.parseLoop now n s.dropLen
    | .waitBody => s
    | .accept => State.parseLoop now n (s.takeFrame now)
    | .dropCrc => State.parseLoop now n s.dropCrc

/-- `PARSE()`: every turn that does not stop removes at least one byte, so `cnt + 1` turns are enough (R84). -/
def State.parse (s : State) (now : Timestamp) : State := State.parseLoop now (s.cnt + 1) s

/-- RX_BYTE: TIMECHECK(now), APPEND(b), PARSE() (R133). -/
def State.rxByte (s : State) (b : Byte) (now : Timestamp) : State := ((s.timecheck now).append b).parse now

/-- FEED: RX_BYTE for each byte in order, with the same `now` (R136). -/
def State.feed (s : State) (bytes : List Byte) (now : Timestamp) : State := bytes.foldl (fun s b => s.rxByte b now) s

/-- POLL: TIMECHECK(now), then return IS_CONNECTED(now) (R134). -/
def State.poll (s : State) (now : Timestamp) : State :=
  (s.timecheck now).respond (.connected ((s.timecheck now).isConnected now))

/-- The five TxByte events of a command, in order (R122). -/
def State.transmit (s : State) (cmd : CustomerCommand) : State :=
  { s with events := s.events ++ (encodeCommand cmd).map .txByte }

/-- ENCODE: a legal code is transmitted; an unlisted one is refused, which is no event, no state change and the cause
EncodeRefused (R122, R125). -/
def State.encode (s : State) (c : Byte) : State :=
  match commandOfCode c with
  | some cmd => s.transmit cmd
  | none => s.raise (.encodeRefused c)

/-- RESET: `cnt <- 0`; `link_up <- 0`; `uart_connected <- 0`; `buf` and `last_rx` lose their value; no event (R165). The new
`last_rx` is a free value (assumption 3). -/
def State.resetEngine (s : State) : State :=
  { s with
    buf := []
    linkUp := false
    uartConnected := false
    lastRx := Config.unspecifiedTime s.draws
    draws := s.draws + 1 }

/-- A micro-step that PARSE selects, issued on its own: it runs where its condition holds; elsewhere it is not selected and
nothing happens (R61, assumption 7). -/
def State.whenTurn (s : State) (t : Turn) (after : State) : State := if parseTurn s.buf = t then after else s

/-- The fetch: the oldest operation the host has issued, and the state without it (R39, R130). -/
def State.fetch (s : State) : Option (Issue × State) :=
  match s.pending with
  | [] => none
  | q :: rest => some (q, { s with pending := rest })

/-- Put an operation where the next step takes it. -/
def State.place (s : State) (q : Issue) : State := { s with pending := q :: s.pending }

end Sys2Proof.Machine
end

