-- ==== Sys2Proof/Machine/Crc8.lean ====
section
/-! DEFINITION. The meanings of the pure CRC functions (40_crc8.md): each returns a value and touches no state (R65). -/

namespace Sys2Proof.Machine

/-- CRC8.STEP acc, b (R70). -/
def execCrc8Step (acc b : Byte) (s : State) : Host.Outcome State Fault Refusal :=
  .next (s.respond (.crcByte (crc8Step acc b)))

/-- CRC8.COMPUTE m (R68). -/
def execCrc8Compute (m : List Byte) (s : State) : Host.Outcome State Fault Refusal :=
  .next (s.respond (.crcByte (crc8 m)))

/-- CRC8.VERIFY m, e (R69). -/
def execCrc8Verify (m : List Byte) (e : Byte) (s : State) : Host.Outcome State Fault Refusal :=
  .next (s.respond (.crcValid (crc8Verify m e)))

end Sys2Proof.Machine
end

