-- ==== Sys2Proof/Machine/HostOps.lean ====
section
/-! DEFINITION. The meanings of the host operations and of FEED (45_engine_ops.md, 44_encoder.md R122 and R125,
70_reset_and_hazards.md R165). Every one is total (60_exceptions.md R145). -/

namespace Sys2Proof.Machine

/-- NOP: no state change, no event (R137). -/
def execNop (s : State) : Host.Outcome State Fault Refusal := .next s

/-- RX_BYTE b @now (R133). -/
def execRxByte (b : Byte) (now : Timestamp) (s : State) : Host.Outcome State Fault Refusal := .next (s.rxByte b now)

/-- POLL @now (R134). -/
def execPoll (now : Timestamp) (s : State) : Host.Outcome State Fault Refusal := .next (s.poll now)

/-- SET_UART v: `uart_connected <- v` and nothing else (R135). -/
def execSetUart (v : Bool) (s : State) : Host.Outcome State Fault Refusal := .next { s with uartConnected := v }

/-- ENCODE c (R122, R125). -/
def execEncode (c : Byte) (s : State) : Host.Outcome State Fault Refusal := .next (s.encode c)

/-- RESET (R165). -/
def execReset (s : State) : Host.Outcome State Fault Refusal := .next s.resetEngine

/-- Operation code 6, reserved: no state change, no event (R137, R59). -/
def execReserved6 (s : State) : Host.Outcome State Fault Refusal := .next s

/-- Operation code 7, reserved: no state change, no event (R137, R59). -/
def execReserved7 (s : State) : Host.Outcome State Fault Refusal := .next s

/-- FEED [b0 .. bn-1] @now (R136). -/
def execFeed (bytes : List Byte) (now : Timestamp) (s : State) : Host.Outcome State Fault Refusal :=
  .next (s.feed bytes now)

end Sys2Proof.Machine
end

