-- ==== Sys2Proof/Machine/Reassembler.lean ====
section
/-! DEFINITION. The meanings of the reassembler's micro-steps (41_reassembler.md). Inside RX_BYTE they run as the operations
State.append and State.parse; issued on its own, a micro-step runs where the condition of its table row holds (R61). -/

namespace Sys2Proof.Machine

/-- APPEND(b): "always the first micro-step", in every state (R76). -/
def execAppend (b : Byte) (s : State) : Host.Outcome State Fault Refusal := .next (s.append b)

/-- DROP_OVF, where `cnt = CAP` (R83). -/
def execDropOvf (s : State) : Host.Outcome State Fault Refusal := .next (if s.cnt = cap then s.dropOvf else s)

/-- WAIT_HDR: `stop`, no state written (R85). -/
def execWaitHdr (s : State) : Host.Outcome State Fault Refusal := .next (s.whenTurn .waitHdr s)

/-- DROP_ADDR (R78). -/
def execDropAddr (s : State) : Host.Outcome State Fault Refusal := .next (s.whenTurn .dropAddr s.dropAddr)

/-- DROP_LEN (R79). -/
def execDropLen (s : State) : Host.Outcome State Fault Refusal := .next (s.whenTurn .dropLen s.dropLen)

/-- WAIT_BODY: `stop`, no state written (R80). -/
def execWaitBody (s : State) : Host.Outcome State Fault Refusal := .next (s.whenTurn .waitBody s)

/-- ACCEPT (R81). -/
def execAccept (s : State) : Host.Outcome State Fault Refusal := .next (s.whenTurn .accept s.accept)

/-- DROP_CRC (R82). -/
def execDropCrc (s : State) : Host.Outcome State Fault Refusal := .next (s.whenTurn .dropCrc s.dropCrc)

end Sys2Proof.Machine
end

