-- ==== Sys2Proof/Machine/RxFrames.lean ====
section
/-! DEFINITION. The meanings of the received-frame rows (42_decoder.md): what the decoder returns for a validated frame of the
row, delivered as RX_BYTE delivers it (45_engine_ops.md R133). EvFrame and NOTE_FRAME belong to ACCEPT and are not repeated
here. None reads or writes the architectural state (R95). -/

namespace Sys2Proof.Machine

/-- RC_CHANNELS: Notify.Channels of the sixteen channels of the payload (R97). -/
def execRcChannels (payload : List Byte) (s : State) : Host.Outcome State Fault Refusal :=
  .next (s.deliver (.ok (.channels (unpackChannels payload))))

/-- CC.EnterWifi: Notify.Command(EnterWifi) (R185). -/
def execCcEnterWifi (s : State) : Host.Outcome State Fault Refusal := .next (s.deliver (.ok (.command .enterWifi)))

/-- CC.EnterBind: Notify.Command(EnterBind) (R186). -/
def execCcEnterBind (s : State) : Host.Outcome State Fault Refusal := .next (s.deliver (.ok (.command .enterBind)))

/-- CC.ReceiveData: Notify.Command(ReceiveData) (R187). -/
def execCcReceiveData (s : State) : Host.Outcome State Fault Refusal := .next (s.deliver (.ok (.command .receiveData)))

/-- CC.SetStatus: Notify.Command(SetStatus) (R188). -/
def execCcSetStatus (s : State) : Host.Outcome State Fault Refusal := .next (s.deliver (.ok (.command .setStatus)))

/-- CC.Reconnect: Notify.Command(Reconnect) (R189). -/
def execCcReconnect (s : State) : Host.Outcome State Fault Refusal := .next (s.deliver (.ok (.command .reconnect)))

/-- CC.Disconnect: Notify.Command(Disconnect) (R190). -/
def execCcDisconnect (s : State) : Host.Outcome State Fault Refusal := .next (s.deliver (.ok (.command .disconnect)))

/-- CC.QueryBinding: Notify.Command(QueryBinding) (R191). -/
def execCcQueryBinding (s : State) : Host.Outcome State Fault Refusal := .next (s.deliver (.ok (.command .queryBinding)))

/-- CC.QueryUartLinked: Notify.Command(QueryUartLinked) (R192). -/
def execCcQueryUartLinked (s : State) : Host.Outcome State Fault Refusal := .next (s.deliver (.ok (.command .queryUartLinked)))

/-- RC_BADLEN: no event; the cause BadRcLength (R98). -/
def execRcBadLen (length : Byte) (s : State) : Host.Outcome State Fault Refusal :=
  .next (s.deliver (.error (.badRcLength length)))

/-- CC_UNKNOWN: no event; the cause UnknownSubcommand (R101). -/
def execCcUnknown (code : Byte) (s : State) : Host.Outcome State Fault Refusal :=
  .next (s.deliver (.error (.unknownSubcommand code)))

/-- OTHER_TYPE: no event; the cause UnknownType (R104). -/
def execOtherType (type : Byte) (s : State) : Host.Outcome State Fault Refusal :=
  .next (s.deliver (.error (.unknownType type)))

end Sys2Proof.Machine
end

