-- ==== Sys2Proof/Machine/Tracker.lean ====
section
/-! DEFINITION. The meanings of the tracker's internal steps (43_link_tracker.md). -/

namespace Sys2Proof.Machine

/-- NOTE_FRAME(now) (R111). -/
def execNoteFrame (now : Timestamp) (s : State) : Host.Outcome State Fault Refusal := .next (s.noteFrame now)

/-- IS_CONNECTED(now): returns its value, writes no state (R112). -/
def execIsConnected (now : Timestamp) (s : State) : Host.Outcome State Fault Refusal :=
  .next (s.respond (.connected (s.isConnected now)))

/-- TIMECHECK(now) (R113). -/
def execTimecheck (now : Timestamp) (s : State) : Host.Outcome State Fault Refusal := .next (s.timecheck now)

end Sys2Proof.Machine
end

