-- ==== Sys2Proof/Machine/TxFrames.lean ====
section
/-! DEFINITION. The meanings of the transmitted-frame rows (44_encoder.md R193 to R200): each is ENCODE of its code (R122). -/

namespace Sys2Proof.Machine

/-- TX.EnterWifi: `EE 03 31 01 DB` (R193). -/
def execTxEnterWifi (s : State) : Host.Outcome State Fault Refusal := .next (s.transmit .enterWifi)

/-- TX.EnterBind: `EE 03 31 02 71` (R194). -/
def execTxEnterBind (s : State) : Host.Outcome State Fault Refusal := .next (s.transmit .enterBind)

/-- TX.ReceiveData: `EE 03 31 03 A4` (R195). -/
def execTxReceiveData (s : State) : Host.Outcome State Fault Refusal := .next (s.transmit .receiveData)

/-- TX.SetStatus: `EE 03 31 04 F0` (R196). -/
def execTxSetStatus (s : State) : Host.Outcome State Fault Refusal := .next (s.transmit .setStatus)

/-- TX.Reconnect: `EE 03 31 05 25` (R197). -/
def execTxReconnect (s : State) : Host.Outcome State Fault Refusal := .next (s.transmit .reconnect)

/-- TX.Disconnect: `EE 03 31 06 8F` (R198). -/
def execTxDisconnect (s : State) : Host.Outcome State Fault Refusal := .next (s.transmit .disconnect)

/-- TX.QueryBinding: `EE 03 31 07 5A` (R199). -/
def execTxQueryBinding (s : State) : Host.Outcome State Fault Refusal := .next (s.transmit .queryBinding)

/-- TX.QueryUartLinked: `EE 03 31 08 27` (R200). -/
def execTxQueryUartLinked (s : State) : Host.Outcome State Fault Refusal := .next (s.transmit .queryUartLinked)

end Sys2Proof.Machine
end

