-- ==== Sys2Proof/Machine/Dispatch.lean ====
section
/-! DEFINITION. Dispatch: one arm per instruction, each one call of its meaning. -/

namespace Sys2Proof.Machine

def exec (i : Instr) (s : State) : Host.Outcome State Fault Refusal :=
  match i with
  | .nop => Sys2Proof.Machine.execNop s
  | .rxByte b now => Sys2Proof.Machine.execRxByte b now s
  | .poll now => Sys2Proof.Machine.execPoll now s
  | .setUart v => Sys2Proof.Machine.execSetUart v s
  | .encode c => Sys2Proof.Machine.execEncode c s
  | .reset => Sys2Proof.Machine.execReset s
  | .reserved6 => Sys2Proof.Machine.execReserved6 s
  | .reserved7 => Sys2Proof.Machine.execReserved7 s
  | .feed bytes now => Sys2Proof.Machine.execFeed bytes now s
  | .append b => Sys2Proof.Machine.execAppend b s
  | .dropOvf => Sys2Proof.Machine.execDropOvf s
  | .waitHdr => Sys2Proof.Machine.execWaitHdr s
  | .dropAddr => Sys2Proof.Machine.execDropAddr s
  | .dropLen => Sys2Proof.Machine.execDropLen s
  | .waitBody => Sys2Proof.Machine.execWaitBody s
  | .accept => Sys2Proof.Machine.execAccept s
  | .dropCrc => Sys2Proof.Machine.execDropCrc s
  | .noteFrame now => Sys2Proof.Machine.execNoteFrame now s
  | .isConnected now => Sys2Proof.Machine.execIsConnected now s
  | .timecheck now => Sys2Proof.Machine.execTimecheck now s
  | .crc8Step acc b => Sys2Proof.Machine.execCrc8Step acc b s
  | .crc8Compute m => Sys2Proof.Machine.execCrc8Compute m s
  | .crc8Verify m e => Sys2Proof.Machine.execCrc8Verify m e s
  | .rcChannels _ payload _ => Sys2Proof.Machine.execRcChannels payload s
  | .ccEnterWifi _ _ _ _ => Sys2Proof.Machine.execCcEnterWifi s
  | .ccEnterBind _ _ _ _ => Sys2Proof.Machine.execCcEnterBind s
  | .ccReceiveData _ _ _ _ => Sys2Proof.Machine.execCcReceiveData s
  | .ccSetStatus _ _ _ _ => Sys2Proof.Machine.execCcSetStatus s
  | .ccReconnect _ _ _ _ => Sys2Proof.Machine.execCcReconnect s
  | .ccDisconnect _ _ _ _ => Sys2Proof.Machine.execCcDisconnect s
  | .ccQueryBinding _ _ _ _ => Sys2Proof.Machine.execCcQueryBinding s
  | .ccQueryUartLinked _ _ _ _ => Sys2Proof.Machine.execCcQueryUartLinked s
  | .rcBadLen _ length _ _ => Sys2Proof.Machine.execRcBadLen length s
  | .ccUnknown _ _ code _ _ => Sys2Proof.Machine.execCcUnknown code s
  | .otherType _ _ type _ _ => Sys2Proof.Machine.execOtherType type s
  | .txEnterWifi => Sys2Proof.Machine.execTxEnterWifi s
  | .txEnterBind => Sys2Proof.Machine.execTxEnterBind s
  | .txReceiveData => Sys2Proof.Machine.execTxReceiveData s
  | .txSetStatus => Sys2Proof.Machine.execTxSetStatus s
  | .txReconnect => Sys2Proof.Machine.execTxReconnect s
  | .txDisconnect => Sys2Proof.Machine.execTxDisconnect s
  | .txQueryBinding => Sys2Proof.Machine.execTxQueryBinding s
  | .txQueryUartLinked => Sys2Proof.Machine.execTxQueryUartLinked s

end Sys2Proof.Machine
end

