-- ==== Sys2Proof/Machine/Step.lean ====
section
/-! DEFINITION. One step of the machine: it takes the oldest operation the host has issued and runs it to completion
(45_engine_ops.md R130). With nothing issued, nothing changes: the engine "never acts on its own"
(70_reset_and_hazards.md R173) and every state is one in which the host may stop (R178). -/

namespace Sys2Proof.Machine

/-- One host operation (or one row issued on its own), atomic. -/
def step (s : State) : Host.Outcome State Fault Refusal :=
  match s.fetch with
  | none => .next s
  | some (q, s') =>
    match decode s.cfg.rcType q with
    | .ok i => exec i s'
    | .error e => .refused (.undecodable e)

/-- `s` with the instruction of a word of spec/opcode_table.json as the next operation issued (assumption 8). -/
def State.withFetchWord (s : State) (nbits w : Nat) : State :=
  match issueOfTableWord nbits w with
  | some q => s.place q
  | none => s

end Sys2Proof.Machine
end

