-- ==== Sys2Proof/WellFormed.lean ====
section
/-! DEFINITION. Well-formed instructions. A received-frame row is well formed when the frame it stands for is a validated
frame (the decoder sees no other, 42_decoder.md R102) and its fields are those its row selects (30_encoding.md R59, R60).
Every operand value of the other rows is legal: there are no reserved operand values that are not an instruction (R57,
44_encoder.md R125: an unlisted ENCODE code is an ENCODE, refused by its own rule). -/

namespace Sys2Proof

/-- The row stands for a validated frame. -/
def Instr.frameValid (rcType : Byte) (i : Instr) : Bool :=
  match Machine.rxFrameOf rcType i with
  | some f => f.valid
  | none => true

/-- The catch-all rows stand only for what the rows before them leave (R59, R61): a length other than 24, an unknown
code, a type that is neither `RC_TYPE` nor 0x31. -/
def Instr.rowSelected (rcType : Byte) (i : Instr) : Bool :=
  match i with
  | .rcBadLen _ n _ _ => n != Machine.rcLength
  | .ccUnknown _ _ c _ _ => (Machine.commandOfCode c).isNone
  | .otherType _ _ t _ _ => t != rcType && t != Machine.ccType
  | .nop | .rxByte _ _ | .poll _ | .setUart _ | .encode _ | .reset | .reserved6 | .reserved7 => true
  | .feed _ _ => true
  | .append _ | .dropOvf | .waitHdr | .dropAddr | .dropLen | .waitBody | .accept | .dropCrc => true
  | .noteFrame _ | .isConnected _ | .timecheck _ => true
  | .crc8Step _ _ | .crc8Compute _ | .crc8Verify _ _ => true
  | .rcChannels _ _ _ => true
  | .ccEnterWifi _ _ _ _ | .ccEnterBind _ _ _ _ | .ccReceiveData _ _ _ _ | .ccSetStatus _ _ _ _ => true
  | .ccReconnect _ _ _ _ | .ccDisconnect _ _ _ _ | .ccQueryBinding _ _ _ _ | .ccQueryUartLinked _ _ _ _ => true
  | .txEnterWifi | .txEnterBind | .txReceiveData | .txSetStatus => true
  | .txReconnect | .txDisconnect | .txQueryBinding | .txQueryUartLinked => true

/-- The check an instruction of an engine with this `RC_TYPE` passes. -/
def Instr.wf (rcType : Byte) (i : Instr) : Bool := i.frameValid rcType && i.rowSelected rcType

end Sys2Proof
end

