-- ==== Sys2Proof/Safety.lean ====
section
/-! DEFINITION. The terms in which claims about the engine are written: the invariant of 10_state.md R18, runs of
instructions, what an operation adds to the outputs, the relation between RX_BYTE and its micro-steps, the arithmetic of
errors on bytes (40_crc8.md R71, R72), and the inverse packing of 42_decoder.md R107 (no operation of the hardware). -/

namespace Sys2Proof.Machine

/-- `buf[i]` if the cell holds a value (R11, R23). -/
def State.readCell (s : State) (i : Nat) : Option Byte := s.buf[i]?

/-- R18, between operations: (I-a) `cnt <= 63`; (I-b) if `cnt >= 2` then `buf[0] in ADDRS`, `3 <= buf[1] <= 62` and
`cnt < 2 + buf[1]`. (I-c) holds by the types of the two flags. -/
def State.quiescent (s : State) : Prop :=
  s.cnt ≤ 63 ∧
    (2 ≤ s.cnt → isRecognized (cell s.buf 0) = true ∧ 3 ≤ (cell s.buf 1).toNat ∧ (cell s.buf 1).toNat ≤ 62 ∧
      s.cnt < 2 + (cell s.buf 1).toNat)

/-- A micro-step is issued by no host: it runs inside an operation (R132, R62). -/
def Issue.micro (q : Issue) : Bool := q.format == .micro

/-- The invariant every step keeps: R18, and that only hosts issue (no micro-step stands at the inputs). -/
def State.inv (s : State) : Prop := s.quiescent ∧ ∀ q ∈ s.pending, Issue.micro q = false

/-- The instructions one after another, stopping at the first fault or refusal (R130: one at a time, in order). -/
def runAll : List Instr → State → Host.Outcome State Fault Refusal
  | [], s => .next s
  | i :: is, s =>
    match exec i s with
    | .next t => runAll is t
    | .fault f => .fault f
    | .refused r => .refused r

/-- The frames among events, in order. -/
def framesOf (evs : List Event) : List Frame :=
  evs.filterMap fun e => match e with
    | .evFrame f => some f
    | .notifyChannels _ | .notifyCommand _ | .notifyDisconnect | .txByte _ => none

/-- The discards among causes: causes 1 to 4, one byte each; causes 5 to 8 discard no byte (R147, R152). -/
def discardsIn (cs : List Cause) : Nat :=
  cs.countP fun c => match c with
    | .badAddress _ | .badLength _ | .badCrc _ _ | .overflow => true
    | .unknownType _ | .unknownSubcommand _ | .badRcLength _ | .encodeRefused _ => false

/-- The bytes that frames take up in the stream: `2 + L` each (R46, R52). -/
def bytesOfFrames (fs : List Frame) : Nat := (fs.map fun f => 2 + f.length.toNat).sum

/-- Two states agree on all that an operation may read: the configuration, the buffer, the link bit, `last_rx` while that bit is
1 (R15, R20), and the model's counter of free values (assumption 3). -/
def State.agrees (s1 s2 : State) : Prop :=
  s1.cfg = s2.cfg ∧ s1.buf = s2.buf ∧ s1.linkUp = s2.linkUp ∧ (s1.linkUp = true → s1.lastRx = s2.lastRx) ∧
    s1.draws = s2.draws

/-- Every Notify.Disconnect in `evs` finds the link up: it was up at the start or a frame was accepted since, and no
Notify.Disconnect stands between (R113). -/
def disconnectsJustified : Bool → List Event → Bool
  | _, [] => true
  | _, .evFrame _ :: r => disconnectsJustified true r
  | up, .notifyDisconnect :: r => up && disconnectsJustified false r
  | up, .notifyChannels _ :: r => disconnectsJustified up r
  | up, .notifyCommand _ :: r => disconnectsJustified up r
  | up, .txByte _ :: r => disconnectsJustified up r

/-- The events of a decoder's answer: one notification, or none (R133). -/
def notificationOf (d : Except Cause DecodedEvent) : List Event :=
  match d with
  | .ok e => [e.event]
  | .error _ => []

/-- The causes of a decoder's answer (R105). -/
def causeOf (d : Except Cause DecodedEvent) : List Cause :=
  match d with
  | .ok _ => []
  | .error c => [c]

/-- The events of TIMECHECK(now) in a state (R113). -/
def expiryEvents (s : State) (now : Timestamp) : List Event :=
  if s.linkUp = true ∧ s.isConnected now = false then [.notifyDisconnect] else []

/-- `PARSE()` as a sequence of the table's rows (R77, R133): it stops at WAIT_HDR or WAIT_BODY; a drop is its micro-step; an
accepted frame is ACCEPT, NOTE_FRAME(now) and the row that the frame's bytes decode to. -/
inductive ParseRun (now : Timestamp) : State → State → Prop where
  | waitHdr {s : State} : parseTurn s.buf = .waitHdr → exec .waitHdr s = .next s → ParseRun now s s
  | waitBody {s : State} : parseTurn s.buf = .waitBody → exec .waitBody s = .next s → ParseRun now s s
  | dropAddr {s s' t : State} :
      parseTurn s.buf = .dropAddr → exec .dropAddr s = .next s' → ParseRun now s' t → ParseRun now s t
  | dropLen {s s' t : State} :
      parseTurn s.buf = .dropLen → exec .dropLen s = .next s' → ParseRun now s' t → ParseRun now s t
  | dropCrc {s s' t : State} :
      parseTurn s.buf = .dropCrc → exec .dropCrc s = .next s' → ParseRun now s' t → ParseRun now s t
  | accept {s s1 s2 s3 t : State} {i : Instr} :
      parseTurn s.buf = .accept → exec .accept s = .next s1 → exec (.noteFrame now) s1 = .next s2 →
      decode s.cfg.rcType (.rxframe (frameAt s.buf).wire) = .ok i → exec i s2 = .next s3 →
      ParseRun now s3 t → ParseRun now s t

/-- Bytewise xor of two messages (R71). -/
def xorBytes (m d : List Byte) : List Byte := List.zipWith (· ^^^ ·) m d

/-- The number of 1 bits of a byte. -/
def byteWeight (b : Byte) : Nat := ((List.range 8).filter fun j => b.getLsbD j).length

/-- The number of 1 bits of a message: the number of bit errors an error pattern makes (R72). -/
def bitWeight (m : List Byte) : Nat := (m.map byteWeight).sum

/-- `m` with bit `j` of byte `k` flipped. -/
def flipBit (m : List Byte) (k j : Nat) : List Byte := m.modify k fun b => b ^^^ (1#8 <<< j)

/-- The bits of channels laid end to end from bit 0: `sum over i of ch[i] << (11*i)` (R107). -/
def channelBits : List Channel → BitVec 176
  | [] => 0
  | c :: rest => c.setWidth 176 ||| (channelBits rest <<< 11)

/-- The 22 payload bytes of a ChannelSet: `p[k] = (P >> (8*k))[7:0]` (R107; for claims only, the engine has no RC encoder). -/
def packChannels (ch : ChannelSet) : List Byte :=
  (List.range 22).map fun k => (channelBits ch.toList >>> (8 * k)).setWidth 8

/-- The RC frame `[a, 0x18, RC_TYPE] || p || [CRC8([RC_TYPE] || p)]` of a ChannelSet (R107). -/
def rcFrame (rcType a : Byte) (ch : ChannelSet) : Frame :=
  ⟨a, 0x18, rcType, packChannels ch, crc8 (rcType :: packChannels ch)⟩

/-- The frame the encoder builds for a command (R122, R124). -/
def commandFrame (cmd : CustomerCommand) : Frame :=
  ⟨0xEE, 0x03, 0x31, [cmd.code], crc8 [0x31, cmd.code]⟩

/-- The customer-command row of a command. -/
def commandRow (cmd : CustomerCommand) (a n : Byte) (rest : List Byte) (k : Byte) : Instr :=
  match cmd with
  | .enterWifi => .ccEnterWifi a n rest k
  | .enterBind => .ccEnterBind a n rest k
  | .receiveData => .ccReceiveData a n rest k
  | .setStatus => .ccSetStatus a n rest k
  | .reconnect => .ccReconnect a n rest k
  | .disconnect => .ccDisconnect a n rest k
  | .queryBinding => .ccQueryBinding a n rest k
  | .queryUartLinked => .ccQueryUartLinked a n rest k

/-- A row of the table's RXFRAME format: match and mask over the word of the frame's first four bytes (R61). -/
structure RxTableRow where
  mnemonic : String
  matched : BitVec 32
  mask : BitVec 32
  deriving DecidableEq, Repr

/-- The RXFRAME rows of spec/opcode_table.json in file order, for the default `RC_TYPE` (R61). -/
def rxTable : List RxTableRow :=
  [⟨"RC_CHANNELS", 0x00181600, 0x00FFFF00⟩, ⟨"CC.EnterWifi", 0x00003101, 0x0000FFFF⟩,
   ⟨"CC.EnterBind", 0x00003102, 0x0000FFFF⟩, ⟨"CC.ReceiveData", 0x00003103, 0x0000FFFF⟩,
   ⟨"CC.SetStatus", 0x00003104, 0x0000FFFF⟩, ⟨"CC.Reconnect", 0x00003105, 0x0000FFFF⟩,
   ⟨"CC.Disconnect", 0x00003106, 0x0000FFFF⟩, ⟨"CC.QueryBinding", 0x00003107, 0x0000FFFF⟩,
   ⟨"CC.QueryUartLinked", 0x00003108, 0x0000FFFF⟩, ⟨"RC_BADLEN", 0x00001600, 0x0000FF00⟩,
   ⟨"CC_UNKNOWN", 0x00003100, 0x0000FF00⟩, ⟨"OTHER_TYPE", 0x00000000, 0x00000000⟩]

/-- "rows are tried in file order and the first match wins" (R61). -/
def firstRow (w : BitVec 32) : Option String := (rxTable.find? fun r => w &&& r.mask == r.matched).map (·.mnemonic)

end Sys2Proof.Machine
end

