-- ==== Sys2Proof/Certificates/Slice0/Obligations.lean ====
section
/-! DEFINITION. The statements about the model, one def per obligation; OBLIGATIONS.json gives each its rule. The diagnostic
trace (60_exceptions.md R146) is named where a statement says what it holds; it is no output of the hardware. -/

open Sys2Proof Sys2Proof.Machine

/-! ## Reset, the host operations and the step -/

/-- 10_state.md R20: after reset `cnt = 0`, both flags are 0, no cell holds a value; the status outputs follow the bits (R19).
Of `last_rx`, unspecified, nothing is said. Two clauses are the model's choice and no reset value of the spec: that the record
`events` starts empty (assumption 5), and that the configuration in the reset state meets R179, its `RC_TYPE` being 0x16
(assumption 2). -/
def Obligations.ResetStateHoldsTheResetValues : Prop :=
  State.reset.cnt = 0 ∧ State.reset.linkUp = false ∧ State.reset.uartConnected = false ∧
    (∀ k, State.reset.readCell k = none) ∧ State.reset.status = (false, false) ∧
    State.reset.events = [] ∧ State.reset.cfg.wf = true

/-- 70_reset_and_hazards.md R165: RESET and the `rst` input empty the buffer and clear both flags, emit nothing and keep the
configuration; `last_rx` becomes some value (nothing is said of it, assumption 3). Its worked example: the rest of a frame cut by
RESET gives no event and leaves 0x71. -/
def Obligations.ResetOperationClearsTheEngine : Prop :=
  (∀ s : State, ∃ v n, exec .reset s = .next { s with
      buf := [], linkUp := false, uartConnected := false, lastRx := v, draws := n }) ∧
  (∀ rcType : Byte, decode rcType .rst = .ok .reset) ∧
  (∀ (rcType : Byte) (h : BitVec 75), opField h = 5 → decode rcType (.hostop h) = .ok .reset) ∧
  (∀ (s : State) (now : Timestamp), s.buf = [0xEE, 0x03, 0x31] → s.linkUp = true →
    ∃ t, runAll [.reset, .feed [0x02, 0x71] now] s = .next t ∧ t.events = s.events ∧ t.buf = [0x71] ∧
      t.linkUp = false)

/-- 45_engine_ops.md R137: `op = 0`, 6 or 7: no state change, no event. -/
def Obligations.NopAndReservedOperationsChangeNothing : Prop :=
  (∀ s : State, exec .nop s = .next s ∧ exec .reserved6 s = .next s ∧ exec .reserved7 s = .next s) ∧
  (∀ (rcType : Byte) (h : BitVec 75),
    (opField h = 0 → decode rcType (.hostop h) = .ok .nop) ∧
    (opField h = 6 → decode rcType (.hostop h) = .ok .reserved6) ∧
    (opField h = 7 → decode rcType (.hostop h) = .ok .reserved7))

/-- 45_engine_ops.md R135: `uart_connected <- v` with `v = data[0]`; nothing else changes. -/
def Obligations.SetUartWritesOnlyItsFlag : Prop :=
  (∀ (v : Bool) (s : State), exec (.setUart v) s = .next { s with uartConnected := v }) ∧
  (∀ (rcType : Byte) (h : BitVec 75), opField h = 3 →
    decode rcType (.hostop h) = .ok (.setUart ((dataField h).getLsbD 0)))

/-- 45_engine_ops.md R130: where what stands at the inputs decodes, a step is exec of the instruction, at the state from which
the operation is taken. The second clause is the model's choice, assumption 9, and no rule of the spec: where it does not
decode, the step is refused by the decoder's name. -/
def Obligations.StepRunsTheDecodedInstruction : Prop :=
  ∀ (s : State) (q : Issue) (rest : List Issue), s.pending = q :: rest →
    (∀ i, decode s.cfg.rcType q = .ok i → step s = exec i { s with pending := rest }) ∧
    (∀ e, decode s.cfg.rcType q = .error e → step s = .refused (.undecodable e))

/-- 70_reset_and_hazards.md R173: "Between operations nothing changes and nothing is emitted." -/
def Obligations.StepWithNothingIssuedChangesNothing : Prop :=
  ∀ s : State, s.pending = [] → step s = .next s

/-- 60_exceptions.md R145: every operation is total, for every state, operand and configuration; a step of any operation word
takes it and goes on. There is no fault value at all. -/
def Obligations.OperationsNeverFaultAndAreNeverRefused : Prop :=
  (∀ (i : Instr) (s : State), ∃ t, exec i s = .next t) ∧
  (∀ (s : State) (h : BitVec 75) (rest : List Issue), s.pending = .hostop h :: rest →
    ∃ t, step s = .next t ∧ t.pending = rest) ∧
  (Fault → False)

/-! ## Encodings -/

/-- 30_encoding.md R57: the three fields make up the whole word, and encoding what was decoded gives the word back but for
the bits the table of R57 calls ignored. That these come back as 0 is the model's choice, assumption 14: R57 says only that they
are ignored. -/
def Obligations.HostWordFieldsAreReadWhole : Prop :=
  ∀ (rcType : Byte) (h : BitVec 75),
    h = hostWord (opField h) (dataField h) (nowField h) ∧
    (opField h = 1 → encode rcType (decodeHostop h) = .hostop h) ∧
    (opField h = 2 → encode rcType (decodeHostop h) = .hostop (hostWord 2 0 (nowField h))) ∧
    (opField h = 3 → encode rcType (decodeHostop h) = .hostop (hostWord 3 (dataField h &&& 1) 0)) ∧
    (opField h = 4 → encode rcType (decodeHostop h) = .hostop (hostWord 4 (dataField h) 0)) ∧
    (opField h = 0 ∨ opField h = 5 ∨ opField h = 6 ∨ opField h = 7 →
      encode rcType (decodeHostop h) = .hostop (hostWord (opField h) 0 0))

/-- Decoding the encoding of a well-formed instruction gives it back, for all 43 rows and every operand value. -/
def Obligations.DecodeOfEncodeIsTheInstruction : Prop :=
  ∀ (rcType : Byte) (i : Instr), rcType ≠ 0x31 → i.wf rcType = true → decode rcType (encode rcType i) = .ok i

/-- 42_decoder.md R105: the bytes of every validated frame decode to one row, well formed, that stands for the frame. -/
def Obligations.ValidatedFrameDecodesToAWellFormedRow : Prop :=
  ∀ (rcType : Byte) (f : Frame), rcType ≠ 0x31 → f.valid = true →
    ∃ i, decode rcType (.rxframe f.wire) = .ok i ∧ i.wf rcType = true ∧ rxFrameOf rcType i = some f

/-- 30_encoding.md R61: the decoder picks the row that the table's masks pick, rows tried in file order, on the word of the
first four bytes. -/
def Obligations.ReceivedRowsFollowTheTablesMasks : Prop :=
  ∀ (a n t p0 : Byte) (rest : List Byte) (k : Byte),
    firstRow (a ++ n ++ t ++ p0) = some (rxRow 0x16 a n t p0 rest k).mnemonic

/-- Words written out in 95_test_vectors.md (programs P1, P3, P4, P5, vectors V-CC2, V-RC1, V-OT1, V-EN8) decode to what they
stand for. -/
def Obligations.SpecWordsDecode : Prop :=
  decode 0x16 (.hostop 0x5000000000000000000) = .ok .reset ∧
  decode 0x16 (.hostop 0x1EE0000000000000064) = .ok (.rxByte 0xEE 100) ∧
  decode 0x16 (.hostop 0x200000000000000176F) = .ok (.poll 5999) ∧
  decode 0x16 (.hostop 0x3010000000000000000) = .ok (.setUart true) ∧
  decode 0x16 (.hostop 0x4090000000000000000) = .ok (.encode 0x09) ∧
  decode 0x16 (.rxframe [0xEE, 0x03, 0x31, 0x02, 0x71]) = .ok (.ccEnterBind 0xEE 0x03 [] 0x71) ∧
  decode 0x16 (.rxframe ([0xC8, 0x18, 0x16] ++ List.replicate 22 0x00 ++ [0xEF])) =
    .ok (.rcChannels 0xC8 (List.replicate 22 0x00) 0xEF) ∧
  decode 0x16 (.rxframe [0xEE, 0x04, 0x2D, 0x01, 0x02, 0x50]) = .ok (.otherType 0xEE 0x04 0x2D [0x01, 0x02] 0x50) ∧
  decode 0x16 (.txframe [0xEE, 0x03, 0x31, 0x08, 0x27]) = .ok .txQueryUartLinked

/-! ## The CRC8 validator -/

/-- 40_crc8.md R66, R67: the ROM has 256 entries and entry `i` is `crc_bitwise([i])`. -/
def Obligations.RomHoldsTheGeneratedTable : Prop :=
  rom.length = 256 ∧ ∀ i : Byte, romRead i = crcBitwise [i]

/-- 40_crc8.md R67: the table is "a permutation of 0..255 (it is an invertible linear map over GF(2))". -/
def Obligations.RomIsAnInvertibleLinearMap : Prop :=
  (∀ a b : Byte, romRead (a ^^^ b) = romRead a ^^^ romRead b) ∧
  (∀ a b : Byte, romRead a = romRead b → a = b) ∧
  (∀ c : Byte, ∃ a : Byte, romRead a = c)

/-- 40_crc8.md R68: `CRC8(m) = crc_bitwise(m)` for every `m`. -/
def Obligations.CrcEqualsTheBitSerialDefinition : Prop :=
  ∀ m : List Byte, crc8 m = crcBitwise m

/-- 40_crc8.md R68, corner cases and worked example. -/
def Obligations.CrcCornerCases : Prop :=
  crc8 [] = 0x00 ∧ (∀ b : Byte, crc8 [b] = romRead b) ∧ (∀ m : List Byte, crc8 (0x00 :: m) = crc8 m) ∧
  (∀ m : List Byte, crc8 (m ++ [crc8 m]) = 0x00) ∧ crc8 [0x31, 0x02] = 0x71

/-- 40_crc8.md R70 (and the functions it names): the value returned is `T[acc xor b]`, for CRC8.COMPUTE its left fold from 0x00,
for CRC8.VERIFY the comparison with it; nothing else changes. -/
def Obligations.CrcFunctionsReturnTheirValue : Prop :=
  (∀ (acc b : Byte) (s : State), exec (.crc8Step acc b) s =
    .next { s with results := s.results ++ [.crcByte (romRead (acc ^^^ b))] }) ∧
  (∀ (m : List Byte) (s : State), exec (.crc8Compute m) s =
    .next { s with results := s.results ++ [.crcByte (m.foldl (fun acc b => romRead (acc ^^^ b)) 0x00)] }) ∧
  (∀ (m : List Byte) (e : Byte) (s : State), exec (.crc8Verify m e) s =
    .next { s with results := s.results ++ [.crcValid (decide (crc8 m = e))] }) ∧
  romRead (0x23 ^^^ 0x02) = 0x71

/-- 40_crc8.md R69: CRC8.VERIFY compares, and holds exactly when the CRC of the message followed by the byte is zero; its corner
case and worked example. -/
def Obligations.VerifyIsTheZeroResidue : Prop :=
  (∀ (m : List Byte) (e : Byte), crc8Verify m e = true ↔ crc8 m = e) ∧
  (∀ (m : List Byte) (e : Byte), crc8Verify m e = true ↔ crc8 (m ++ [e]) = 0x00) ∧
  (∀ (m : List Byte) (e : Byte) (s : State), exec (.crc8Verify m e) s =
    .next { s with results := s.results ++ [.crcValid (crc8Verify m e)] }) ∧
  crc8Verify [] 0x00 = true ∧ crc8Verify [0x31, 0x02] 0x71 = true ∧ crc8Verify [0x31, 0x12] 0x71 = false

/-- 40_crc8.md R71: `CRC8(m1 xor m2) = CRC8(m1) xor CRC8(m2)` for messages of equal length. -/
def Obligations.CrcIsLinear : Prop :=
  ∀ m1 m2 : List Byte, m1.length = m2.length → crc8 (xorBytes m1 m2) = crc8 m1 ^^^ crc8 m2

/-- 40_crc8.md R72: every odd number of bit errors in `type .. crc` is detected (a single-bit error among them). -/
def Obligations.OddBitErrorsAreDetected : Prop :=
  ∀ (m d : List Byte) (e de : Byte), d.length = m.length → crc8Verify m e = true →
    bitWeight (d ++ [de]) % 2 = 1 → crc8Verify (xorBytes m d) (e ^^^ de) = false

/-- 40_crc8.md R72: every burst of 8 bits or fewer is detected, in the residue form of R69: `c` is a message followed by its
CRC, and the error pattern is a nonzero byte shifted by up to 8 places into two neighbouring bytes. -/
def Obligations.ShortBurstsAreDetected : Prop :=
  ∀ (c : List Byte) (p q : Nat) (burst : Byte) (k : Nat), crc8 c = 0x00 → c.length = p + 2 + q → burst ≠ 0 → k ≤ 8 →
    crc8 (xorBytes c (List.replicate p (0x00 : Byte) ++
      [((burst.setWidth 16 <<< k) >>> 8).setWidth 8, (burst.setWidth 16 <<< k).setWidth 8] ++
      List.replicate q (0x00 : Byte))) ≠ 0x00

/-! ## The frame reassembler -/

/-- 41_reassembler.md R76, R83: APPEND puts the byte at index `cnt`; with the buffer full the oldest byte goes first, and that
removal is DROP_OVF. -/
def Obligations.AppendAddsTheByteAtTheEnd : Prop :=
  (∀ (b : Byte) (s : State), s.cnt ≠ 64 → exec (.append b) s = .next { s with buf := s.buf ++ [b] }) ∧
  (∀ (b : Byte) (s : State), s.cnt = 64 → exec (.append b) s =
    .next { s with buf := s.buf.drop 1 ++ [b], trace := s.trace ++ [.overflow] }) ∧
  (∀ s : State, s.cnt = 64 → exec .dropOvf s =
    .next { s with buf := s.buf.drop 1, trace := s.trace ++ [.overflow] })

/-- 41_reassembler.md R78, R79, R82 and 60_exceptions.md R152: each discard removes exactly `buf[0]` and records its cause. -/
def Obligations.DiscardsRemoveExactlyTheFirstByte : Prop :=
  (∀ (s : State) (a n : Byte) (rest : List Byte), s.buf = a :: n :: rest → a ≠ 0xEE → a ≠ 0xEA → a ≠ 0xC8 →
    exec .dropAddr s = .next { s with buf := n :: rest, trace := s.trace ++ [.badAddress a] }) ∧
  (∀ (s : State) (a n : Byte) (rest : List Byte), s.buf = a :: n :: rest → (a = 0xEE ∨ a = 0xEA ∨ a = 0xC8) →
    (n.toNat < 3 ∨ 62 < n.toNat) →
    exec .dropLen s = .next { s with buf := n :: rest, trace := s.trace ++ [.badLength n] }) ∧
  (∀ (s : State) (f : Frame) (rest : List Byte), s.buf = f.wire ++ rest →
    (f.address = 0xEE ∨ f.address = 0xEA ∨ f.address = 0xC8) → 3 ≤ f.length.toNat → f.length.toNat ≤ 62 →
    f.payload.length + 2 = f.length.toNat → crc8 (f.type :: f.payload) ≠ f.crc →
    exec .dropCrc s = .next { s with
      buf := (f.wire ++ rest).drop 1, trace := s.trace ++ [.badCrc (crc8 (f.type :: f.payload)) f.crc] })

/-- 41_reassembler.md R85, R80: the two waits write no state and emit nothing. -/
def Obligations.WaitsWriteNothing : Prop :=
  ∀ s : State, exec .waitHdr s = .next s ∧ exec .waitBody s = .next s

/-- 41_reassembler.md R81: with a validated frame's bytes at the front, ACCEPT removes them and emits EvFrame of the frame. -/
def Obligations.AcceptEmitsAndConsumesTheFrame : Prop :=
  ∀ (s : State) (f : Frame) (rest : List Byte), f.valid = true → s.buf = f.wire ++ rest →
    exec .accept s = .next { s with buf := rest, events := s.events ++ [.evFrame f] }

/-- The model's choice, assumption 7 (no rule of the spec): a micro-step issued where its condition does not hold does
nothing. -/
def Obligations.UnselectedMicroStepsDoNothing : Prop :=
  ∀ s : State,
    (s.cnt ≠ 64 → exec .dropOvf s = .next s) ∧
    (parseTurn s.buf ≠ .dropAddr → exec .dropAddr s = .next s) ∧
    (parseTurn s.buf ≠ .dropLen → exec .dropLen s = .next s) ∧
    (parseTurn s.buf ≠ .dropCrc → exec .dropCrc s = .next s) ∧
    (parseTurn s.buf ≠ .accept → exec .accept s = .next s)

/-- 41_reassembler.md R84: `PARSE` stops only at WAIT_HDR or WAIT_BODY; every turn that does not stop removes at least one
byte; `cnt + 1` turns are enough, and more change nothing; entered with `cnt <= 64` it stops with `cnt <= 63`. -/
def Obligations.ParseStopsOnlyWhenQuiescent : Prop :=
  ∀ (s : State) (now : Timestamp),
    (parseTurn (s.parse now).buf = .waitHdr ∨ parseTurn (s.parse now).buf = .waitBody) ∧
    (∀ n, s.cnt < n → State.parseLoop now n s = s.parse now) ∧
    (parseTurn s.buf = .dropAddr → s.dropAddr.cnt + 1 = s.cnt) ∧
    (parseTurn s.buf = .dropLen → s.dropLen.cnt + 1 = s.cnt) ∧
    (parseTurn s.buf = .dropCrc → s.dropCrc.cnt + 1 = s.cnt) ∧
    (parseTurn s.buf = .accept → (s.takeFrame now).cnt + 5 ≤ s.cnt) ∧
    (s.cnt ≤ 64 → (s.parse now).cnt ≤ 63)

/-- 10_state.md R18: the invariant holds between operations: every step keeps it. -/
def Obligations.EveryStepKeepsTheInvariant : Prop :=
  ∀ s t : State, s.inv → step s = .next t → t.inv

/-- 10_state.md R18: the invariant holds at reset. -/
def Obligations.ResetStateHasTheInvariant : Prop := State.reset.inv

/-- 45_engine_ops.md R133: RX_BYTE is TIMECHECK, APPEND and PARSE, the parse loop being a sequence of the table's own rows: a
drop, or ACCEPT, NOTE_FRAME and the received-frame row the frame's bytes decode to. -/
def Obligations.RxByteIsItsMicroSteps : Prop :=
  ∀ (b : Byte) (now : Timestamp) (s : State), ∃ s1 s2 t,
    exec (.timecheck now) s = .next s1 ∧ exec (.append b) s1 = .next s2 ∧ ParseRun now s2 t ∧
    exec (.rxByte b now) s = .next t

/-- 45_engine_ops.md R133, 41_reassembler.md R92: at most 12 frames and 25 events in one RX_BYTE. -/
def Obligations.RxByteAddsAtMostTwentyFiveEvents : Prop :=
  ∀ (b : Byte) (now : Timestamp) (s : State), s.cnt ≤ 63 → ∃ t evs,
    exec (.rxByte b now) s = .next t ∧ t.events = s.events ++ evs ∧ (framesOf evs).length ≤ 12 ∧ evs.length ≤ 25

/-- 20_memory.md R33, 41_reassembler.md R90 and R93, 60_exceptions.md R152: RX_BYTE stores the byte last and consumes from the
front only, in order: one byte for each discard and `2 + L` bytes for each frame emitted, and no other byte. The discards are
counted by their causes in the trace, which is the model's own record (assumption 6). -/
def Obligations.BytesAreConsumedFromTheFrontInOrder : Prop :=
  ∀ (b : Byte) (now : Timestamp) (s : State), ∃ t evs cs,
    exec (.rxByte b now) s = .next t ∧ t.events = s.events ++ evs ∧ t.trace = s.trace ++ cs ∧
    t.buf = (s.buf ++ [b]).drop (discardsIn cs + bytesOfFrames (framesOf evs)) ∧
    t.cnt + (discardsIn cs + bytesOfFrames (framesOf evs)) = s.cnt + 1

/-- 41_reassembler.md R81, 43_link_tracker.md R111 and R114, 45_engine_ops.md R133: a validated frame fed to an empty buffer is
emitted, refreshes the link and is decoded, in this order, after the Notify.Disconnect of an expired link; nothing else
changes. -/
def Obligations.FedFrameIsAcceptedAndDelivered : Prop :=
  ∀ (s : State) (f : Frame) (now : Timestamp), s.buf = [] → f.valid = true →
    exec (.feed f.wire now) s = .next { s with
      linkUp := true
      lastRx := now
      events := s.events ++ expiryEvents s now ++ [.evFrame f] ++ notificationOf (decodeFrame s.cfg.rcType f)
      trace := s.trace ++ causeOf (decodeFrame s.cfg.rcType f) }

/-- 41_reassembler.md R87 (the source's "Partial feed"): a validated frame cut in two FEEDs at any place gives exactly one frame,
in the FEED that completes it, stamped with that FEED's time. -/
def Obligations.FrameSplitAnywhereIsEmittedOnce : Prop :=
  ∀ (s : State) (f : Frame) (k : Nat) (now1 now2 : Timestamp), s.buf = [] → f.valid = true → k < f.wire.length →
    ∃ u t evs1 evs2,
      exec (.feed (f.wire.take k) now1) s = .next u ∧ u.events = s.events ++ evs1 ∧ framesOf evs1 = [] ∧
      u.lastRx = s.lastRx ∧ u.buf = f.wire.take k ∧
      exec (.feed (f.wire.drop k) now2) u = .next t ∧ t.events = u.events ++ evs2 ∧ framesOf evs2 = [f] ∧
      t.buf = [] ∧ t.linkUp = true ∧ t.lastRx = now2

/-- 41_reassembler.md R86: validated frames back to back in one FEED, from an empty buffer, are each emitted, in order. -/
def Obligations.BackToBackFramesComeOutInOrder : Prop :=
  ∀ (s : State) (fs : List Frame) (now : Timestamp), s.buf = [] → (∀ f ∈ fs, f.valid = true) →
    ∃ t evs, exec (.feed (fs.flatMap Frame.wire) now) s = .next t ∧ t.events = s.events ++ evs ∧
      framesOf evs = fs ∧ t.buf = []

/-- 41_reassembler.md R91: a frame, one byte of noise of any value, and a frame give exactly the two frames. -/
def Obligations.NoiseByteBetweenFramesIsDropped : Prop :=
  ∀ (s : State) (f g : Frame) (x : Byte) (now : Timestamp), s.buf = [] → f.valid = true → g.valid = true →
    ∃ t evs, exec (.feed (f.wire ++ x :: g.wire) now) s = .next t ∧ t.events = s.events ++ evs ∧
      framesOf evs = [f, g] ∧ t.buf = []

/-- 41_reassembler.md R89, 40_crc8.md R73: a validated frame with one bit flipped anywhere in `type .. crc`, fed to an empty buffer,
is judged by DROP_CRC and is not emitted. -/
def Obligations.CorruptedFrameIsNotEmitted : Prop :=
  ∀ (s : State) (f : Frame) (k j : Nat) (now : Timestamp), s.buf = [] → f.valid = true → k < f.length.toNat → j < 8 →
    parseTurn (f.address :: f.length :: flipBit (f.type :: (f.payload ++ [f.crc])) k j) = .dropCrc ∧
    ∃ t evs, exec (.feed (f.address :: f.length :: flipBit (f.type :: (f.payload ++ [f.crc])) k j) now) s = .next t ∧
      t.events = s.events ++ evs ∧ f ∉ framesOf evs

/-- 45_engine_ops.md R136: FEED is its expansion, as instructions and as operation words issued by the host; how the bytes are
cut into FEEDs with one time does not matter (R87). -/
def Obligations.FeedIsItsExpansion : Prop :=
  ∀ (s : State) (bytes : List Byte) (now : Timestamp),
    exec (.feed bytes now) s = runAll (bytes.map fun b => .rxByte b now) s ∧
    Host.Core.run Sys2Proof.core bytes.length
      { s with pending := (bytes.map fun b => .hostop (hostWord 1 b now)) ++ s.pending } = exec (.feed bytes now) s ∧
    exec (.feed [] now) s = .next s ∧
    (∀ k, runAll [.feed (bytes.take k) now, .feed (bytes.drop k) now] s = exec (.feed bytes now) s)

/-! ## The link tracker -/

/-- 43_link_tracker.md R111: `last_rx <- now`, `link_up <- 1`, no event. -/
def Obligations.NoteFrameStampsTheLink : Prop :=
  ∀ (now : Timestamp) (s : State), exec (.noteFrame now) s = .next { s with lastRx := now, linkUp := true }

/-- 43_link_tracker.md R112: IS_CONNECTED is `link_up` and the strict unsigned comparison of the difference modulo 2^64; it
writes no state; while `link_up = 0` it is false whatever `last_rx` is; the worked example. -/
def Obligations.IsConnectedComparesTheModularDifference : Prop :=
  (∀ (now : Timestamp) (s : State), exec (.isConnected now) s = .next { s with results := s.results ++
    [.connected (decide (s.linkUp = true ∧
      (now.toNat + 2 ^ 64 - s.lastRx.toNat) % 2 ^ 64 < s.cfg.connectionTimeout.toNat))] }) ∧
  (∀ (now v : Timestamp) (s : State), s.linkUp = false → exec (.isConnected now) { s with lastRx := v } =
    .next { s with lastRx := v, results := s.results ++ [.connected false] }) ∧
  (∀ s : State, s.linkUp = true → s.lastRx = 5000 → s.cfg.connectionTimeout = 1000 →
    exec (.isConnected 5999) s = .next { s with results := s.results ++ [.connected true] } ∧
    exec (.isConnected 6000) s = .next { s with results := s.results ++ [.connected false] } ∧
    exec (.isConnected 6001) s = .next { s with results := s.results ++ [.connected false] })

/-- 43_link_tracker.md R113: on the edge TIMECHECK clears `link_up` and emits one Notify.Disconnect, `last_rx` left as it is;
off it, it does nothing; afterwards `link_up` is IS_CONNECTED(now). -/
def Obligations.TimecheckIsTheEdgeDetector : Prop :=
  ∀ (now : Timestamp) (s : State),
    (s.linkUp = true → s.isConnected now = false → exec (.timecheck now) s =
      .next { s with linkUp := false, events := s.events ++ [.notifyDisconnect] }) ∧
    (s.linkUp = false ∨ s.isConnected now = true → exec (.timecheck now) s = .next s) ∧
    (∃ t, exec (.timecheck now) s = .next t ∧ t.linkUp = s.isConnected now ∧ t.linkUp = t.isConnected now)

/-- 45_engine_ops.md R134: POLL only ever clears `link_up`, emits at most one Notify.Disconnect and returns IS_CONNECTED(now),
which is the new `link_up`; nothing else changes; with the link down (a reset engine, a repeated POLL) it returns false and
emits nothing; the worked example. -/
def Obligations.PollReportsAndDetectsTheEdge : Prop :=
  (∀ (now : Timestamp) (s : State), exec (.poll now) s = .next { s with
    linkUp := s.isConnected now
    events := s.events ++ expiryEvents s now
    results := s.results ++ [.connected (s.isConnected now)] }) ∧
  (∀ (now : Timestamp) (s : State), s.linkUp = false →
    exec (.poll now) s = .next { s with results := s.results ++ [.connected false] }) ∧
  (∀ s : State, s.linkUp = true → s.lastRx = 5000 → s.cfg.connectionTimeout = 1000 → exec (.poll 6000) s =
    .next { s with
      linkUp := false
      events := s.events ++ [.notifyDisconnect]
      results := s.results ++ [.connected false] })

/-- 43_link_tracker.md R116: marked live at T, polled at `T + timeout - 1` the link is up; at `T + timeout` it is down and the one
Notify.Disconnect comes; at `T + timeout + 1` likewise if it is the first poll; later polls, however many, emit nothing. -/
def Obligations.TimeoutBoundaryFiresOnce : Prop :=
  (∀ s : State, s.linkUp = true → s.cfg.connectionTimeout ≠ 0 →
    exec (.poll (s.lastRx + s.cfg.connectionTimeout - 1)) s =
      .next { s with results := s.results ++ [.connected true] }) ∧
  (∀ s : State, s.linkUp = true → exec (.poll (s.lastRx + s.cfg.connectionTimeout)) s =
    .next { s with
      linkUp := false
      events := s.events ++ [.notifyDisconnect]
      results := s.results ++ [.connected false] }) ∧
  (∀ s : State, s.linkUp = true → s.cfg.connectionTimeout.toNat + 1 < 2 ^ 64 →
    exec (.poll (s.lastRx + s.cfg.connectionTimeout + 1)) s =
      .next { s with
        linkUp := false
        events := s.events ++ [.notifyDisconnect]
        results := s.results ++ [.connected false] }) ∧
  (∀ (s : State) (nows : List Timestamp), s.linkUp = false → runAll (nows.map .poll) s =
    .next { s with results := s.results ++ nows.map fun _ => .connected false })

/-- 43_link_tracker.md R120: with `CONNECTION_TIMEOUT = 0` IS_CONNECTED is always false, and the link that a frame noted at any
time raises is lost at the next timed operation, POLL or RX_BYTE, whatever its time: Notify.Disconnect is its first event, and
the link stays down unless that RX_BYTE itself accepts a frame; the same after any RX_BYTE that accepted a validated frame, which
left `link_up = 1`. With 1 the link is up only while `now = last_rx`. -/
def Obligations.DegenerateTimeouts : Prop :=
  (∀ (now : Timestamp) (s : State), s.cfg.connectionTimeout = 0 →
    exec (.isConnected now) s = .next { s with results := s.results ++ [.connected false] }) ∧
  (∀ (now now2 : Timestamp) (s : State), s.cfg.connectionTimeout = 0 →
    runAll [.noteFrame now, .poll now2] s = .next { s with
      lastRx := now
      linkUp := false
      events := s.events ++ [.notifyDisconnect]
      results := s.results ++ [.connected false] }) ∧
  (∀ (now now2 : Timestamp) (b : Byte) (s : State), s.cfg.connectionTimeout = 0 → ∃ t evs,
    runAll [.noteFrame now, .rxByte b now2] s = .next t ∧ t.events = s.events ++ .notifyDisconnect :: evs ∧
    .notifyDisconnect ∉ evs ∧ (framesOf evs = [] → t.linkUp = false ∧ t.lastRx = now)) ∧
  (∀ (now : Timestamp) (b : Byte) (s : State), s.cfg.connectionTimeout = 0 → ∃ t evs,
    exec (.rxByte b now) s = .next t ∧ t.events = s.events ++ evs ∧
    (framesOf evs ≠ [] → t.linkUp = true ∧
      (∀ now2, exec (.poll now2) t = .next { t with
        linkUp := false
        events := t.events ++ [.notifyDisconnect]
        results := t.results ++ [.connected false] }) ∧
      ∀ b2 now2, ∃ u evs2, exec (.rxByte b2 now2) t = .next u ∧
        u.events = t.events ++ .notifyDisconnect :: evs2 ∧ .notifyDisconnect ∉ evs2 ∧
        (framesOf evs2 = [] → u.linkUp = false))) ∧
  (∀ (now : Timestamp) (s : State), s.cfg.connectionTimeout = 1 → s.linkUp = true →
    exec (.isConnected now) s = .next { s with results := s.results ++ [.connected (decide (now = s.lastRx))] })

/-- 43_link_tracker.md R113, 10_state.md R13: over every run of operations (any but lone micro-steps), each Notify.Disconnect
finds the link up and no second one follows before a frame is accepted; and a link lost without RESET is reported. -/
def Obligations.OneDisconnectPerLoss : Prop :=
  ∀ (is : List Instr) (s : State), (∀ i ∈ is, i.format ≠ .micro) → ∃ t evs,
    runAll is s = .next t ∧ t.events = s.events ++ evs ∧ disconnectsJustified s.linkUp evs = true ∧
    (.reset ∉ is → s.linkUp = true → t.linkUp = false → .notifyDisconnect ∈ evs)

/-- 10_state.md R13, R15, 43_link_tracker.md R118: an RX_BYTE in which a frame is accepted leaves the link up with `last_rx = now`;
one in which none is (garbage) leaves `last_rx`, and `link_up` is IS_CONNECTED(now), never raised. -/
def Obligations.LinkFollowsAcceptedFrames : Prop :=
  ∀ (b : Byte) (now : Timestamp) (s : State), ∃ t evs,
    exec (.rxByte b now) s = .next t ∧ t.events = s.events ++ evs ∧
    (framesOf evs ≠ [] → t.linkUp = true ∧ t.lastRx = now) ∧
    (framesOf evs = [] → t.linkUp = s.isConnected now ∧ t.lastRx = s.lastRx)

/-! ## The payload decoder -/

/-- 42_decoder.md R97, 20_memory.md R34: RC_CHANNELS emits one Notify.Channels; bit `j` of channel `i` is bit `11*i + j` of the
little-endian bitstream, which is bit `(11*i + j) mod 8` of payload byte `(11*i + j) div 8`; nothing else changes. -/
def Obligations.RcRowUnpacksElevenBitFields : Prop :=
  ∀ (s : State) (a : Byte) (p : List Byte) (k : Byte), ∃ ch : ChannelSet,
    exec (.rcChannels a p k) s = .next { s with events := s.events ++ [.notifyChannels ch] } ∧
    ∀ (i : Fin 16) (j : Nat), j < 11 →
      ch[i].getLsbD j = (cell p ((11 * i.val + j) / 8)).getLsbD ((11 * i.val + j) % 8)

/-- 42_decoder.md R107 (the source's "CRC round-trip"): the RC frame packed from any ChannelSet is a validated frame, and
feeding it to an empty buffer yields that ChannelSet unchanged. -/
def Obligations.ChannelSetRoundTrip : Prop :=
  ∀ (s : State) (ch : ChannelSet) (a : Byte) (now : Timestamp), s.buf = [] → (a = 0xEE ∨ a = 0xEA ∨ a = 0xC8) →
    (rcFrame s.cfg.rcType a ch).valid = true ∧
    exec (.feed (rcFrame s.cfg.rcType a ch).wire now) s = .next { s with
      linkUp := true
      lastRx := now
      events := s.events ++ expiryEvents s now ++ [.evFrame (rcFrame s.cfg.rcType a ch), .notifyChannels ch] }

/-- 42_decoder.md R185 to R192 but R190: `type = 0x31` and `payload[0]` = the code select the row, whatever the address, the length
and the other payload bytes; it emits Notify.Command of the command and changes nothing else; the worked examples. -/
def Obligations.CustomerCommandRowsNotifyTheirCommand : Prop :=
  (∀ (cmd : CustomerCommand) (a n : Byte) (rest : List Byte) (k : Byte) (s : State), s.cfg.rcType ≠ 0x31 →
    decode s.cfg.rcType (.rxframe (a :: n :: 0x31 :: cmd.code :: (rest ++ [k]))) = .ok (commandRow cmd a n rest k) ∧
    exec (commandRow cmd a n rest k) s = .next { s with events := s.events ++ [.notifyCommand cmd] }) ∧
  CustomerCommand.enterWifi.code = 0x01 ∧ CustomerCommand.enterBind.code = 0x02 ∧
  CustomerCommand.receiveData.code = 0x03 ∧ CustomerCommand.setStatus.code = 0x04 ∧
  CustomerCommand.reconnect.code = 0x05 ∧ CustomerCommand.disconnect.code = 0x06 ∧
  CustomerCommand.queryBinding.code = 0x07 ∧ CustomerCommand.queryUartLinked.code = 0x08 ∧
  Frame.valid ⟨0xEE, 0x03, 0x31, [0x01], 0xDB⟩ = true ∧ Frame.valid ⟨0xEE, 0x03, 0x31, [0x02], 0x71⟩ = true ∧
  Frame.valid ⟨0xEE, 0x03, 0x31, [0x03], 0xA4⟩ = true ∧ Frame.valid ⟨0xEE, 0x03, 0x31, [0x04], 0xF0⟩ = true ∧
  Frame.valid ⟨0xEE, 0x03, 0x31, [0x05], 0x25⟩ = true ∧ Frame.valid ⟨0xEE, 0x03, 0x31, [0x06], 0x8F⟩ = true ∧
  Frame.valid ⟨0xEE, 0x03, 0x31, [0x07], 0x5A⟩ = true ∧ Frame.valid ⟨0xEE, 0x03, 0x31, [0x08], 0x27⟩ = true ∧
  Frame.valid ⟨0xEE, 0x05, 0x31, [0x03, 0xAA, 0xBB], 0xF8⟩ = true ∧
  decode 0x16 (.rxframe [0xEE, 0x05, 0x31, 0x03, 0xAA, 0xBB, 0xF8]) = .ok (.ccReceiveData 0xEE 0x05 [0xAA, 0xBB] 0xF8)

/-- 42_decoder.md R98, R101, R104: the three ignored kinds emit nothing and write no state; the cause goes to the trace. -/
def Obligations.IgnoredKindsNotifyNothing : Prop :=
  (∀ (s : State) (a n : Byte) (p : List Byte) (k : Byte), exec (.rcBadLen a n p k) s =
    .next { s with trace := s.trace ++ [.badRcLength n] }) ∧
  (∀ (s : State) (a n c : Byte) (rest : List Byte) (k : Byte), exec (.ccUnknown a n c rest k) s =
    .next { s with trace := s.trace ++ [.unknownSubcommand c] }) ∧
  (∀ (s : State) (a n t : Byte) (p : List Byte) (k : Byte), exec (.otherType a n t p k) s =
    .next { s with trace := s.trace ++ [.unknownType t] })

/-- 42_decoder.md R96, R105: a well-formed received-frame row does what the decoder answers for the frame it stands for. -/
def Obligations.ReceivedRowIsTheDecodersAnswer : Prop :=
  ∀ (s : State) (i : Instr) (f : Frame), s.cfg.wf = true → i.wf s.cfg.rcType = true →
    rxFrameOf s.cfg.rcType i = some f → exec i s = .next { s with
      events := s.events ++ notificationOf (decodeFrame s.cfg.rcType f)
      trace := s.trace ++ causeOf (decodeFrame s.cfg.rcType f) }

/-! ## The command encoder -/

/-- 44_encoder.md R122: five TxByte events, `address`, `length`, `type`, `payload`, `crc`, and nothing else. -/
def Obligations.EncodeOfAListedCodeSendsFiveBytes : Prop :=
  ∀ (cmd : CustomerCommand) (s : State), exec (.encode cmd.code) s = .next { s with events := s.events ++
    [.txByte 0xEE, .txByte 0x03, .txByte 0x31, .txByte cmd.code, .txByte (crc8 [0x31, cmd.code])] }

/-- 44_encoder.md R125: a code in 0x00, 0x09 .. 0xFF is refused: no TxByte, no state change, the cause EncodeRefused. -/
def Obligations.EncodeRefusesUnlistedCodes : Prop :=
  ∀ (c : Byte) (s : State), c = 0x00 ∨ 0x09 ≤ c.toNat →
    exec (.encode c) s = .next { s with trace := s.trace ++ [.encodeRefused c] }

/-- 44_encoder.md R193 to R200: the eight transmitted frames, as ENCODE of the code and as the row itself. -/
def Obligations.EightTransmittedFrames : Prop :=
  ∀ s : State,
    (exec (.encode 0x01) s = .next { s with events := s.events ++ [0xEE, 0x03, 0x31, 0x01, 0xDB].map .txByte } ∧
      exec .txEnterWifi s = exec (.encode 0x01) s ∧ romRead 0x22 = 0xDB) ∧
    (exec (.encode 0x02) s = .next { s with events := s.events ++ [0xEE, 0x03, 0x31, 0x02, 0x71].map .txByte } ∧
      exec .txEnterBind s = exec (.encode 0x02) s ∧ romRead 0x21 = 0x71) ∧
    (exec (.encode 0x03) s = .next { s with events := s.events ++ [0xEE, 0x03, 0x31, 0x03, 0xA4].map .txByte } ∧
      exec .txReceiveData s = exec (.encode 0x03) s ∧ romRead 0x20 = 0xA4) ∧
    (exec (.encode 0x04) s = .next { s with events := s.events ++ [0xEE, 0x03, 0x31, 0x04, 0xF0].map .txByte } ∧
      exec .txSetStatus s = exec (.encode 0x04) s ∧ romRead 0x27 = 0xF0) ∧
    (exec (.encode 0x05) s = .next { s with events := s.events ++ [0xEE, 0x03, 0x31, 0x05, 0x25].map .txByte } ∧
      exec .txReconnect s = exec (.encode 0x05) s ∧ romRead 0x26 = 0x25) ∧
    (exec (.encode 0x06) s = .next { s with events := s.events ++ [0xEE, 0x03, 0x31, 0x06, 0x8F].map .txByte } ∧
      exec .txDisconnect s = exec (.encode 0x06) s ∧ romRead 0x25 = 0x8F) ∧
    (exec (.encode 0x07) s = .next { s with events := s.events ++ [0xEE, 0x03, 0x31, 0x07, 0x5A].map .txByte } ∧
      exec .txQueryBinding s = exec (.encode 0x07) s ∧ romRead 0x24 = 0x5A) ∧
    (exec (.encode 0x08) s = .next { s with events := s.events ++ [0xEE, 0x03, 0x31, 0x08, 0x27].map .txByte } ∧
      exec .txQueryUartLinked s = exec (.encode 0x08) s ∧ romRead 0x2B = 0x27)

/-- 44_encoder.md R124: the frame ENCODE sends is a validated frame, and fed to a reset engine (or any with an empty buffer) it
gives EvFrame and Notify.Command of its command. -/
def Obligations.EncodedFrameLoopsBack : Prop :=
  ∀ (cmd : CustomerCommand) (s : State) (now : Timestamp), s.buf = [] → s.cfg.rcType ≠ 0x31 →
    (commandFrame cmd).valid = true ∧
    exec (.encode cmd.code) s = .next { s with events := s.events ++ (commandFrame cmd).wire.map .txByte } ∧
    exec (.feed (commandFrame cmd).wire now) s = .next { s with
      linkUp := true
      lastRx := now
      events := s.events ++ expiryEvents s now ++ [.evFrame (commandFrame cmd), .notifyCommand cmd] }

/-- 45_engine_ops.md R140: ENCODE before or after any instruction gives the same state and the same events of each (up to their
order, and that of the causes in the trace). -/
def Obligations.EncodeCommutesWithEveryInstruction : Prop :=
  ∀ (c : Byte) (i : Instr) (s : State), ∃ e1 e2 t1 t2 tx evs,
    exec (.encode c) s = .next e1 ∧ e1.events = s.events ++ tx ∧ { e1 with events := s.events, trace := s.trace } = s ∧
    exec i s = .next e2 ∧ e2.events = s.events ++ evs ∧
    runAll [.encode c, i] s = .next t1 ∧ t1.events = s.events ++ tx ++ evs ∧
    runAll [i, .encode c] s = .next t2 ∧ t2.events = s.events ++ evs ++ tx ∧
    ({ t1 with events := [], trace := [] } : State) = { t2 with events := [], trace := [] }

/-! ## Rules over all instructions -/

/-- 45_engine_ops.md R138, 10_state.md R14, R17, R19: what each element is written by; every other instruction leaves it, every
cell of the buffer included. Events and values returned are only ever added. -/
def Obligations.OnlyTheNamedInstructionsWrite : Prop :=
  ∀ (i : Instr) (s t : State), exec i s = .next t →
    t.cfg = s.cfg ∧ t.pending = s.pending ∧
    (i ≠ .reset → (∀ v, i ≠ .setUart v) → t.uartConnected = s.uartConnected) ∧
    (i ≠ .reset → (∀ b now, i ≠ .rxByte b now) → (∀ bs now, i ≠ .feed bs now) → (∀ now, i ≠ .noteFrame now) →
      t.lastRx = s.lastRx) ∧
    (i ≠ .reset → (∀ b now, i ≠ .rxByte b now) → (∀ bs now, i ≠ .feed bs now) → (∀ now, i ≠ .noteFrame now) →
      (∀ now, i ≠ .poll now) → (∀ now, i ≠ .timecheck now) → t.linkUp = s.linkUp) ∧
    (i ≠ .reset → (∀ b now, i ≠ .rxByte b now) → (∀ bs now, i ≠ .feed bs now) → (∀ b, i ≠ .append b) →
      i ≠ .dropOvf → i ≠ .dropAddr → i ≠ .dropLen → i ≠ .dropCrc → i ≠ .accept →
      ∀ k, t.readCell k = s.readCell k) ∧
    ((∀ now, i ≠ .poll now) → (∀ now, i ≠ .isConnected now) → (∀ acc b, i ≠ .crc8Step acc b) →
      (∀ m, i ≠ .crc8Compute m) → (∀ m e, i ≠ .crc8Verify m e) → t.results = s.results) ∧
    (∃ evs, t.events = s.events ++ evs) ∧ (∃ rs, t.results = s.results ++ rs) ∧ (∃ cs, t.trace = s.trace ++ cs)

/-- 10_state.md R14, R15, R16, R19, R20, 43_link_tracker.md R118, 60_exceptions.md R146: what the engine does depends on the
configuration, the buffer, the link bit and, while that bit is 1, its timestamp: no instruction reads `uart_connected`, what has
been delivered, what the host will issue next or the trace, nor `last_rx` while `link_up = 0`. Two states that agree so answer
alike and agree again, and a step, which takes what they have pending, keeps it. That they agree on `draws` too, the model's own
counter of the free values of `last_rx` after a RESET, rests on assumption 3. -/
def Obligations.RecordsAndUartFlagAreNeverRead : Prop :=
  (∀ (i : Instr) (s1 s2 : State), s1.agrees s2 → ∃ t1 t2 evs rs cs,
    exec i s1 = .next t1 ∧ exec i s2 = .next t2 ∧ t1.agrees t2 ∧
    (s1.lastRx = s2.lastRx → t1.lastRx = t2.lastRx) ∧
    t1.events = s1.events ++ evs ∧ t2.events = s2.events ++ evs ∧
    t1.results = s1.results ++ rs ∧ t2.results = s2.results ++ rs ∧
    t1.trace = s1.trace ++ cs ∧ t2.trace = s2.trace ++ cs) ∧
  (∀ s1 s2 t1 : State, s1.agrees s2 → s1.pending = s2.pending → step s1 = .next t1 →
    ∃ t2, step s2 = .next t2 ∧ t1.agrees t2 ∧ t1.pending = t2.pending)
end

