-- ==== Sys2Proof/Laws/State.lean ====
section
/-! SUPPORT. One lemma per field per update of the state: what each plain operation writes, and that it leaves the rest. All are
true by unfolding, so that no later proof unfolds a record update. -/

namespace Sys2Proof.Machine

variable (s : State)

@[simp] theorem State.emit_cfg (e : Event) : (s.emit e).cfg = s.cfg := rfl
@[simp] theorem State.emit_buf (e : Event) : (s.emit e).buf = s.buf := rfl
@[simp] theorem State.emit_linkUp (e : Event) : (s.emit e).linkUp = s.linkUp := rfl
@[simp] theorem State.emit_uartConnected (e : Event) : (s.emit e).uartConnected = s.uartConnected := rfl
@[simp] theorem State.emit_lastRx (e : Event) : (s.emit e).lastRx = s.lastRx := rfl
@[simp] theorem State.emit_draws (e : Event) : (s.emit e).draws = s.draws := rfl
@[simp] theorem State.emit_pending (e : Event) : (s.emit e).pending = s.pending := rfl
@[simp] theorem State.emit_events (e : Event) : (s.emit e).events = s.events ++ [e] := rfl
@[simp] theorem State.emit_results (e : Event) : (s.emit e).results = s.results := rfl
@[simp] theorem State.emit_trace (e : Event) : (s.emit e).trace = s.trace := rfl

@[simp] theorem State.raise_cfg (c : Cause) : (s.raise c).cfg = s.cfg := rfl
@[simp] theorem State.raise_buf (c : Cause) : (s.raise c).buf = s.buf := rfl
@[simp] theorem State.raise_linkUp (c : Cause) : (s.raise c).linkUp = s.linkUp := rfl
@[simp] theorem State.raise_uartConnected (c : Cause) : (s.raise c).uartConnected = s.uartConnected := rfl
@[simp] theorem State.raise_lastRx (c : Cause) : (s.raise c).lastRx = s.lastRx := rfl
@[simp] theorem State.raise_draws (c : Cause) : (s.raise c).draws = s.draws := rfl
@[simp] theorem State.raise_pending (c : Cause) : (s.raise c).pending = s.pending := rfl
@[simp] theorem State.raise_events (c : Cause) : (s.raise c).events = s.events := rfl
@[simp] theorem State.raise_results (c : Cause) : (s.raise c).results = s.results := rfl
@[simp] theorem State.raise_trace (c : Cause) : (s.raise c).trace = s.trace ++ [c] := rfl

@[simp] theorem State.respond_cfg (r : Result) : (s.respond r).cfg = s.cfg := rfl
@[simp] theorem State.respond_buf (r : Result) : (s.respond r).buf = s.buf := rfl
@[simp] theorem State.respond_linkUp (r : Result) : (s.respond r).linkUp = s.linkUp := rfl
@[simp] theorem State.respond_uartConnected (r : Result) : (s.respond r).uartConnected = s.uartConnected := rfl
@[simp] theorem State.respond_lastRx (r : Result) : (s.respond r).lastRx = s.lastRx := rfl
@[simp] theorem State.respond_draws (r : Result) : (s.respond r).draws = s.draws := rfl
@[simp] theorem State.respond_pending (r : Result) : (s.respond r).pending = s.pending := rfl
@[simp] theorem State.respond_events (r : Result) : (s.respond r).events = s.events := rfl
@[simp] theorem State.respond_results (r : Result) : (s.respond r).results = s.results ++ [r] := rfl
@[simp] theorem State.respond_trace (r : Result) : (s.respond r).trace = s.trace := rfl

@[simp] theorem State.discard_cfg (c : Cause) : (s.discard c).cfg = s.cfg := rfl
@[simp] theorem State.discard_buf (c : Cause) : (s.discard c).buf = s.buf.drop 1 := rfl
@[simp] theorem State.discard_linkUp (c : Cause) : (s.discard c).linkUp = s.linkUp := rfl
@[simp] theorem State.discard_uartConnected (c : Cause) : (s.discard c).uartConnected = s.uartConnected := rfl
@[simp] theorem State.discard_lastRx (c : Cause) : (s.discard c).lastRx = s.lastRx := rfl
@[simp] theorem State.discard_draws (c : Cause) : (s.discard c).draws = s.draws := rfl
@[simp] theorem State.discard_pending (c : Cause) : (s.discard c).pending = s.pending := rfl
@[simp] theorem State.discard_events (c : Cause) : (s.discard c).events = s.events := rfl
@[simp] theorem State.discard_results (c : Cause) : (s.discard c).results = s.results := rfl
@[simp] theorem State.discard_trace (c : Cause) : (s.discard c).trace = s.trace ++ [c] := rfl

@[simp] theorem State.dropOvf_cfg : (s.dropOvf).cfg = s.cfg := rfl
@[simp] theorem State.dropOvf_buf : (s.dropOvf).buf = s.buf.drop 1 := rfl
@[simp] theorem State.dropOvf_linkUp : (s.dropOvf).linkUp = s.linkUp := rfl
@[simp] theorem State.dropOvf_uartConnected : (s.dropOvf).uartConnected = s.uartConnected := rfl
@[simp] theorem State.dropOvf_lastRx : (s.dropOvf).lastRx = s.lastRx := rfl
@[simp] theorem State.dropOvf_draws : (s.dropOvf).draws = s.draws := rfl
@[simp] theorem State.dropOvf_pending : (s.dropOvf).pending = s.pending := rfl
@[simp] theorem State.dropOvf_events : (s.dropOvf).events = s.events := rfl
@[simp] theorem State.dropOvf_results : (s.dropOvf).results = s.results := rfl
@[simp] theorem State.dropOvf_trace : (s.dropOvf).trace = s.trace ++ [.overflow] := rfl

@[simp] theorem State.dropAddr_cfg : (s.dropAddr).cfg = s.cfg := rfl
@[simp] theorem State.dropAddr_buf : (s.dropAddr).buf = s.buf.drop 1 := rfl
@[simp] theorem State.dropAddr_linkUp : (s.dropAddr).linkUp = s.linkUp := rfl
@[simp] theorem State.dropAddr_uartConnected : (s.dropAddr).uartConnected = s.uartConnected := rfl
@[simp] theorem State.dropAddr_lastRx : (s.dropAddr).lastRx = s.lastRx := rfl
@[simp] theorem State.dropAddr_draws : (s.dropAddr).draws = s.draws := rfl
@[simp] theorem State.dropAddr_pending : (s.dropAddr).pending = s.pending := rfl
@[simp] theorem State.dropAddr_events : (s.dropAddr).events = s.events := rfl
@[simp] theorem State.dropAddr_results : (s.dropAddr).results = s.results := rfl
@[simp] theorem State.dropAddr_trace : (s.dropAddr).trace = s.trace ++ [.badAddress (cell s.buf 0)] := rfl

@[simp] theorem State.dropLen_cfg : (s.dropLen).cfg = s.cfg := rfl
@[simp] theorem State.dropLen_buf : (s.dropLen).buf = s.buf.drop 1 := rfl
@[simp] theorem State.dropLen_linkUp : (s.dropLen).linkUp = s.linkUp := rfl
@[simp] theorem State.dropLen_uartConnected : (s.dropLen).uartConnected = s.uartConnected := rfl
@[simp] theorem State.dropLen_lastRx : (s.dropLen).lastRx = s.lastRx := rfl
@[simp] theorem State.dropLen_draws : (s.dropLen).draws = s.draws := rfl
@[simp] theorem State.dropLen_pending : (s.dropLen).pending = s.pending := rfl
@[simp] theorem State.dropLen_events : (s.dropLen).events = s.events := rfl
@[simp] theorem State.dropLen_results : (s.dropLen).results = s.results := rfl
@[simp] theorem State.dropLen_trace : (s.dropLen).trace = s.trace ++ [.badLength (cell s.buf 1)] := rfl

@[simp] theorem State.dropCrc_cfg : (s.dropCrc).cfg = s.cfg := rfl
@[simp] theorem State.dropCrc_buf : (s.dropCrc).buf = s.buf.drop 1 := rfl
@[simp] theorem State.dropCrc_linkUp : (s.dropCrc).linkUp = s.linkUp := rfl
@[simp] theorem State.dropCrc_uartConnected : (s.dropCrc).uartConnected = s.uartConnected := rfl
@[simp] theorem State.dropCrc_lastRx : (s.dropCrc).lastRx = s.lastRx := rfl
@[simp] theorem State.dropCrc_draws : (s.dropCrc).draws = s.draws := rfl
@[simp] theorem State.dropCrc_pending : (s.dropCrc).pending = s.pending := rfl
@[simp] theorem State.dropCrc_events : (s.dropCrc).events = s.events := rfl
@[simp] theorem State.dropCrc_results : (s.dropCrc).results = s.results := rfl
@[simp] theorem State.dropCrc_trace : (s.dropCrc).trace = s.trace ++ [.badCrc (candidateCrc s.buf) (frameAt s.buf).crc] := rfl

@[simp] theorem State.accept_cfg : (s.accept).cfg = s.cfg := rfl
@[simp] theorem State.accept_buf : (s.accept).buf = s.buf.drop (candidateSize s.buf) := rfl
@[simp] theorem State.accept_linkUp : (s.accept).linkUp = s.linkUp := rfl
@[simp] theorem State.accept_uartConnected : (s.accept).uartConnected = s.uartConnected := rfl
@[simp] theorem State.accept_lastRx : (s.accept).lastRx = s.lastRx := rfl
@[simp] theorem State.accept_draws : (s.accept).draws = s.draws := rfl
@[simp] theorem State.accept_pending : (s.accept).pending = s.pending := rfl
@[simp] theorem State.accept_events : (s.accept).events = s.events ++ [.evFrame (frameAt s.buf)] := rfl
@[simp] theorem State.accept_results : (s.accept).results = s.results := rfl
@[simp] theorem State.accept_trace : (s.accept).trace = s.trace := rfl

@[simp] theorem State.noteFrame_cfg (now : Timestamp) : (s.noteFrame now).cfg = s.cfg := rfl
@[simp] theorem State.noteFrame_buf (now : Timestamp) : (s.noteFrame now).buf = s.buf := rfl
@[simp] theorem State.noteFrame_linkUp (now : Timestamp) : (s.noteFrame now).linkUp = true := rfl
@[simp] theorem State.noteFrame_uartConnected (now : Timestamp) : (s.noteFrame now).uartConnected = s.uartConnected := rfl
@[simp] theorem State.noteFrame_lastRx (now : Timestamp) : (s.noteFrame now).lastRx = now := rfl
@[simp] theorem State.noteFrame_draws (now : Timestamp) : (s.noteFrame now).draws = s.draws := rfl
@[simp] theorem State.noteFrame_pending (now : Timestamp) : (s.noteFrame now).pending = s.pending := rfl
@[simp] theorem State.noteFrame_events (now : Timestamp) : (s.noteFrame now).events = s.events := rfl
@[simp] theorem State.noteFrame_results (now : Timestamp) : (s.noteFrame now).results = s.results := rfl
@[simp] theorem State.noteFrame_trace (now : Timestamp) : (s.noteFrame now).trace = s.trace := rfl

@[simp] theorem State.transmit_cfg (cmd : CustomerCommand) : (s.transmit cmd).cfg = s.cfg := rfl
@[simp] theorem State.transmit_buf (cmd : CustomerCommand) : (s.transmit cmd).buf = s.buf := rfl
@[simp] theorem State.transmit_linkUp (cmd : CustomerCommand) : (s.transmit cmd).linkUp = s.linkUp := rfl
@[simp] theorem State.transmit_uartConnected (cmd : CustomerCommand) : (s.transmit cmd).uartConnected = s.uartConnected := rfl
@[simp] theorem State.transmit_lastRx (cmd : CustomerCommand) : (s.transmit cmd).lastRx = s.lastRx := rfl
@[simp] theorem State.transmit_draws (cmd : CustomerCommand) : (s.transmit cmd).draws = s.draws := rfl
@[simp] theorem State.transmit_pending (cmd : CustomerCommand) : (s.transmit cmd).pending = s.pending := rfl
@[simp] theorem State.transmit_events (cmd : CustomerCommand) : (s.transmit cmd).events = s.events ++ (encodeCommand cmd).map .txByte := rfl
@[simp] theorem State.transmit_results (cmd : CustomerCommand) : (s.transmit cmd).results = s.results := rfl
@[simp] theorem State.transmit_trace (cmd : CustomerCommand) : (s.transmit cmd).trace = s.trace := rfl

@[simp] theorem State.resetEngine_cfg : (s.resetEngine).cfg = s.cfg := rfl
@[simp] theorem State.resetEngine_buf : (s.resetEngine).buf = [] := rfl
@[simp] theorem State.resetEngine_linkUp : (s.resetEngine).linkUp = false := rfl
@[simp] theorem State.resetEngine_uartConnected : (s.resetEngine).uartConnected = false := rfl
@[simp] theorem State.resetEngine_lastRx : (s.resetEngine).lastRx = Config.unspecifiedTime s.draws := rfl
@[simp] theorem State.resetEngine_draws : (s.resetEngine).draws = s.draws + 1 := rfl
@[simp] theorem State.resetEngine_pending : (s.resetEngine).pending = s.pending := rfl
@[simp] theorem State.resetEngine_events : (s.resetEngine).events = s.events := rfl
@[simp] theorem State.resetEngine_results : (s.resetEngine).results = s.results := rfl
@[simp] theorem State.resetEngine_trace : (s.resetEngine).trace = s.trace := rfl

@[simp] theorem State.place_cfg (q : Issue) : (s.place q).cfg = s.cfg := rfl
@[simp] theorem State.place_buf (q : Issue) : (s.place q).buf = s.buf := rfl
@[simp] theorem State.place_linkUp (q : Issue) : (s.place q).linkUp = s.linkUp := rfl
@[simp] theorem State.place_uartConnected (q : Issue) : (s.place q).uartConnected = s.uartConnected := rfl
@[simp] theorem State.place_lastRx (q : Issue) : (s.place q).lastRx = s.lastRx := rfl
@[simp] theorem State.place_draws (q : Issue) : (s.place q).draws = s.draws := rfl
@[simp] theorem State.place_pending (q : Issue) : (s.place q).pending = q :: s.pending := rfl
@[simp] theorem State.place_events (q : Issue) : (s.place q).events = s.events := rfl
@[simp] theorem State.place_results (q : Issue) : (s.place q).results = s.results := rfl
@[simp] theorem State.place_trace (q : Issue) : (s.place q).trace = s.trace := rfl

@[simp] theorem State.append_cfg (b : Byte) : (s.append b).cfg = s.cfg := by
  unfold State.append; dsimp only; split <;> rfl
@[simp] theorem State.append_linkUp (b : Byte) : (s.append b).linkUp = s.linkUp := by
  unfold State.append; dsimp only; split <;> rfl
@[simp] theorem State.append_uartConnected (b : Byte) : (s.append b).uartConnected = s.uartConnected := by
  unfold State.append; dsimp only; split <;> rfl
@[simp] theorem State.append_lastRx (b : Byte) : (s.append b).lastRx = s.lastRx := by
  unfold State.append; dsimp only; split <;> rfl
@[simp] theorem State.append_draws (b : Byte) : (s.append b).draws = s.draws := by
  unfold State.append; dsimp only; split <;> rfl
@[simp] theorem State.append_pending (b : Byte) : (s.append b).pending = s.pending := by
  unfold State.append; dsimp only; split <;> rfl
@[simp] theorem State.append_events (b : Byte) : (s.append b).events = s.events := by
  unfold State.append; dsimp only; split <;> rfl
@[simp] theorem State.append_results (b : Byte) : (s.append b).results = s.results := by
  unfold State.append; dsimp only; split <;> rfl

@[simp] theorem State.timecheck_cfg (now : Timestamp) : (s.timecheck now).cfg = s.cfg := by
  unfold State.timecheck; split <;> rfl
@[simp] theorem State.timecheck_buf (now : Timestamp) : (s.timecheck now).buf = s.buf := by
  unfold State.timecheck; split <;> rfl
@[simp] theorem State.timecheck_uartConnected (now : Timestamp) : (s.timecheck now).uartConnected = s.uartConnected := by
  unfold State.timecheck; split <;> rfl
@[simp] theorem State.timecheck_lastRx (now : Timestamp) : (s.timecheck now).lastRx = s.lastRx := by
  unfold State.timecheck; split <;> rfl
@[simp] theorem State.timecheck_draws (now : Timestamp) : (s.timecheck now).draws = s.draws := by
  unfold State.timecheck; split <;> rfl
@[simp] theorem State.timecheck_pending (now : Timestamp) : (s.timecheck now).pending = s.pending := by
  unfold State.timecheck; split <;> rfl
@[simp] theorem State.timecheck_results (now : Timestamp) : (s.timecheck now).results = s.results := by
  unfold State.timecheck; split <;> rfl
@[simp] theorem State.timecheck_trace (now : Timestamp) : (s.timecheck now).trace = s.trace := by
  unfold State.timecheck; split <;> rfl

@[simp] theorem State.deliver_cfg (d : Except Cause DecodedEvent) : (s.deliver d).cfg = s.cfg := by
  cases d <;> rfl
@[simp] theorem State.deliver_buf (d : Except Cause DecodedEvent) : (s.deliver d).buf = s.buf := by
  cases d <;> rfl
@[simp] theorem State.deliver_linkUp (d : Except Cause DecodedEvent) : (s.deliver d).linkUp = s.linkUp := by
  cases d <;> rfl
@[simp] theorem State.deliver_uartConnected (d : Except Cause DecodedEvent) : (s.deliver d).uartConnected = s.uartConnected := by
  cases d <;> rfl
@[simp] theorem State.deliver_lastRx (d : Except Cause DecodedEvent) : (s.deliver d).lastRx = s.lastRx := by
  cases d <;> rfl
@[simp] theorem State.deliver_draws (d : Except Cause DecodedEvent) : (s.deliver d).draws = s.draws := by
  cases d <;> rfl
@[simp] theorem State.deliver_pending (d : Except Cause DecodedEvent) : (s.deliver d).pending = s.pending := by
  cases d <;> rfl
@[simp] theorem State.deliver_results (d : Except Cause DecodedEvent) : (s.deliver d).results = s.results := by
  cases d <;> rfl

@[simp] theorem State.notify_cfg (f : Frame) : (s.notify f).cfg = s.cfg := by
  simp [State.notify]
@[simp] theorem State.notify_buf (f : Frame) : (s.notify f).buf = s.buf := by
  simp [State.notify]
@[simp] theorem State.notify_linkUp (f : Frame) : (s.notify f).linkUp = s.linkUp := by
  simp [State.notify]
@[simp] theorem State.notify_uartConnected (f : Frame) : (s.notify f).uartConnected = s.uartConnected := by
  simp [State.notify]
@[simp] theorem State.notify_lastRx (f : Frame) : (s.notify f).lastRx = s.lastRx := by
  simp [State.notify]
@[simp] theorem State.notify_draws (f : Frame) : (s.notify f).draws = s.draws := by
  simp [State.notify]
@[simp] theorem State.notify_pending (f : Frame) : (s.notify f).pending = s.pending := by
  simp [State.notify]
@[simp] theorem State.notify_results (f : Frame) : (s.notify f).results = s.results := by
  simp [State.notify]

@[simp] theorem State.takeFrame_cfg (now : Timestamp) : (s.takeFrame now).cfg = s.cfg := by
  simp [State.takeFrame]
@[simp] theorem State.takeFrame_buf (now : Timestamp) : (s.takeFrame now).buf = s.buf.drop (candidateSize s.buf) := by
  simp [State.takeFrame]
@[simp] theorem State.takeFrame_linkUp (now : Timestamp) : (s.takeFrame now).linkUp = true := by
  simp [State.takeFrame]
@[simp] theorem State.takeFrame_uartConnected (now : Timestamp) : (s.takeFrame now).uartConnected = s.uartConnected := by
  simp [State.takeFrame]
@[simp] theorem State.takeFrame_lastRx (now : Timestamp) : (s.takeFrame now).lastRx = now := by
  simp [State.takeFrame]
@[simp] theorem State.takeFrame_draws (now : Timestamp) : (s.takeFrame now).draws = s.draws := by
  simp [State.takeFrame]
@[simp] theorem State.takeFrame_pending (now : Timestamp) : (s.takeFrame now).pending = s.pending := by
  simp [State.takeFrame]
@[simp] theorem State.takeFrame_results (now : Timestamp) : (s.takeFrame now).results = s.results := by
  simp [State.takeFrame]

/-- A decoder's answer adds at most one notification to the events. -/
theorem State.deliver_events (d : Except Cause DecodedEvent) :
    (s.deliver d).events = s.events ∨ ∃ e, d = .ok e ∧ (s.deliver d).events = s.events ++ [e.event] := by
  cases d with
  | ok e => exact .inr ⟨e, rfl, rfl⟩
  | error c => exact .inl rfl

end Sys2Proof.Machine
end

