-- ==== Sys2Proof/Laws/Buffer.lean ====
section
/-! SUPPORT. The buffer and its candidate: cells, the canonical form of the buffer's cells, what the fields of a candidate are
when a frame's bytes stand at the front, and the six cases of the parse loop's test chain. -/

namespace Sys2Proof.Machine

@[simp] theorem cell_cons_zero (b : Byte) (buf : List Byte) : cell (b :: buf) 0 = b := rfl

@[simp] theorem cell_cons_succ (b : Byte) (buf : List Byte) (i : Nat) : cell (b :: buf) (i + 1) = cell buf i := rfl

@[simp] theorem memRead_zero (buf : List Byte) (n : Nat) : memRead buf 0 n = buf.take n := rfl

@[simp] theorem memRead_cons_succ (b : Byte) (buf : List Byte) (a n : Nat) :
    memRead (b :: buf) (a + 1) n = memRead buf a n := rfl

theorem isRecognized_iff (a : Byte) : isRecognized a = true ↔ a = 0xEE ∨ a = 0xEA ∨ a = 0xC8 := by
  simp [isRecognized, addrModule, addrRadio, addrFlightController, or_assoc]

theorem lengthOk_iff (n : Byte) : lengthOk n = true ↔ 3 ≤ n.toNat ∧ n.toNat ≤ 62 := by
  simp only [lengthOk, Bool.and_eq_true, decide_eq_true_eq]
  exact Iff.rfl

/-- A recognized address is no legal length: all three exceed 62 (R47). -/
theorem lengthOk_of_isRecognized {a : Byte} (h : isRecognized a = true) : lengthOk a = false := by
  rcases (isRecognized_iff a).1 h with rfl | rfl | rfl <;> decide

theorem Frame.valid_iff (f : Frame) :
    f.valid = true ↔ isRecognized f.address = true ∧ (3 ≤ f.length.toNat ∧ f.length.toNat ≤ 62) ∧
      f.payload.length + 2 = f.length.toNat ∧ crc8 (f.type :: f.payload) = f.crc := by
  simp [Frame.valid, lengthOk_iff, crc8Verify, and_assoc]

@[simp] theorem Frame.length_wire (f : Frame) : f.wire.length = f.payload.length + 4 := by
  simp [Frame.wire]

/-- With a frame's bytes at the front of the buffer, the candidate's size is the frame's. -/
theorem candidateSize_wire (f : Frame) (rest : List Byte) : candidateSize (f.wire ++ rest) = 2 + f.length.toNat := rfl

/-- With a frame's bytes at the front of the buffer, the candidate is the frame. -/
theorem frameAt_wire {f : Frame} (h : f.payload.length + 2 = f.length.toNat) (rest : List Byte) :
    frameAt (f.wire ++ rest) = f := by
  have hk : f.length.toNat = f.payload.length + 2 := by omega
  obtain ⟨a, n, t, p, k⟩ := f
  simp only [frameAt, Frame.wire, List.cons_append, cell_cons_zero, cell_cons_succ, memRead_cons_succ] at *
  simp only [hk, List.append_assoc, List.singleton_append]
  congr 1
  · simp
  · simp [cell]

/-- With a frame's bytes at the front of the buffer, the computed CRC is that of `type || payload`. -/
theorem candidateCrc_wire {f : Frame} (h : f.payload.length + 2 = f.length.toNat) (rest : List Byte) :
    candidateCrc (f.wire ++ rest) = crc8 (f.type :: f.payload) := by
  have hn : f.length.toNat - 1 = f.payload.length + 1 := by omega
  obtain ⟨a, n, t, p, k⟩ := f
  simp only [candidateCrc, Frame.wire, List.cons_append, cell_cons_zero, cell_cons_succ, memRead_cons_succ] at *
  simp [hn]

/-- A complete candidate's bytes stand at the front of the buffer. -/
theorem wire_frameAt {buf : List Byte} (h2 : 2 ≤ (cell buf 1).toNat) (hs : candidateSize buf ≤ buf.length) :
    buf = (frameAt buf).wire ++ buf.drop (candidateSize buf) ∧
      (frameAt buf).payload.length + 2 = (frameAt buf).length.toNat := by
  match buf, h2, hs with
  | [], h2, _ => simp [cell] at h2
  | [_], h2, _ => simp [cell] at h2
  | [a, n], h2, hs => simp [candidateSize] at hs h2; omega
  | a :: n :: t :: body, h2, hs =>
    simp only [candidateSize, cell_cons_succ, cell_cons_zero, List.length_cons] at h2 hs
    obtain ⟨m, hm⟩ : ∃ m, n.toNat = m + 2 := ⟨n.toNat - 2, by omega⟩
    have hi : m < body.length := by omega
    refine ⟨?_, ?_⟩
    · simp only [frameAt, Frame.wire, cell_cons_zero, cell_cons_succ, memRead_cons_succ, memRead_zero, candidateSize, hm]
      rw [show 2 + (m + 2) = m + 1 + 1 + 1 + 1 by omega]
      simp [cell, hi]
    · simp only [frameAt, cell_cons_zero, cell_cons_succ, memRead_cons_succ, memRead_zero, hm, List.length_take]
      omega

/-- The six cases of the test chain, one for each turn (R77, R78 to R82, R85). -/
theorem parseTurn_cases (buf : List Byte) :
    (parseTurn buf = .waitHdr ∧ buf.length < 2) ∨
    (parseTurn buf = .dropAddr ∧ 2 ≤ buf.length ∧ isRecognized (cell buf 0) = false) ∨
    (parseTurn buf = .dropLen ∧ 2 ≤ buf.length ∧ isRecognized (cell buf 0) = true ∧ lengthOk (cell buf 1) = false) ∨
    (parseTurn buf = .waitBody ∧ 2 ≤ buf.length ∧ isRecognized (cell buf 0) = true ∧ lengthOk (cell buf 1) = true ∧
      buf.length < candidateSize buf) ∨
    (parseTurn buf = .accept ∧ 2 ≤ buf.length ∧ isRecognized (cell buf 0) = true ∧ lengthOk (cell buf 1) = true ∧
      candidateSize buf ≤ buf.length ∧ candidateCrc buf = (frameAt buf).crc) ∨
    (parseTurn buf = .dropCrc ∧ 2 ≤ buf.length ∧ isRecognized (cell buf 0) = true ∧ lengthOk (cell buf 1) = true ∧
      candidateSize buf ≤ buf.length ∧ candidateCrc buf ≠ (frameAt buf).crc) := by
  unfold parseTurn
  by_cases h1 : buf.length < 2
  · exact .inl ⟨by simp [h1], h1⟩
  by_cases h2 : isRecognized (cell buf 0) = true
  · by_cases h3 : lengthOk (cell buf 1) = true
    · by_cases h4 : buf.length < candidateSize buf
      · simp [h1, h2, h3, h4, Nat.not_lt.1 h1]
      · by_cases h5 : candidateCrc buf = (frameAt buf).crc
        · simp [h1, h2, h3, h4, h5, Nat.not_lt.1 h1, Nat.not_lt.1 h4]
        · simp [h1, h2, h3, h4, h5, Nat.not_lt.1 h1, Nat.not_lt.1 h4]
    · simp [h1, h2, h3, Nat.not_lt.1 h1]
  · simp [h1, h2, Nat.not_lt.1 h1]

/-- ACCEPT is selected exactly where a validated frame's bytes stand at the front (R81). -/
theorem parseTurn_accept {buf : List Byte} (h : parseTurn buf = .accept) :
    ∃ f rest, Frame.valid f = true ∧ frameAt buf = f ∧ buf = f.wire ++ rest ∧ buf.drop (candidateSize buf) = rest := by
  rcases parseTurn_cases buf with c | c | c | c | c | c <;> rw [c.1] at h <;> try exact absurd h (by decide)
  obtain ⟨-, -, ha, hl, hs, hc⟩ := c
  have hl' := (lengthOk_iff _).1 hl
  obtain ⟨hw, hp⟩ := wire_frameAt (by omega) hs
  refine ⟨_, _, (Frame.valid_iff _).2 ⟨ha, hl', hp, ?_⟩, rfl, hw, rfl⟩
  rw [← hc, hw, candidateCrc_wire hp, ← hw]

/-- A validated frame at the front of the buffer is accepted (R81). -/
theorem parseTurn_of_valid {f : Frame} (h : f.valid = true) (rest : List Byte) :
    parseTurn (f.wire ++ rest) = .accept := by
  obtain ⟨ha, hl, hp, hc⟩ := (Frame.valid_iff f).1 h
  have e0 : cell (f.wire ++ rest) 0 = f.address := rfl
  have e1 : cell (f.wire ++ rest) 1 = f.length := rfl
  have hsz : candidateSize (f.wire ++ rest) = 2 + f.length.toNat := rfl
  have hlen : (f.wire ++ rest).length = f.payload.length + 4 + rest.length := by simp
  unfold parseTurn
  rw [if_neg (by omega), e0, e1, if_neg (by simp [ha]), if_neg (by simp [(lengthOk_iff _).2 hl]),
    if_neg (by omega), candidateCrc_wire hp, frameAt_wire hp, if_pos hc]

/-- Each turn that does not stop removes at least one byte (R84). -/
theorem State.discard_cnt_lt {s : State} (c : Cause) (h : 2 ≤ s.buf.length) : (s.discard c).cnt < s.cnt := by
  simp [State.cnt]; omega

theorem State.takeFrame_cnt_lt {s : State} (now : Timestamp) (h : 2 ≤ s.buf.length) :
    (s.takeFrame now).cnt < s.cnt := by
  simp [State.cnt, candidateSize]; omega

/-- The cells of the buffer are in canonical form whenever the buffer is within its capacity (R11, R44). -/
theorem State.cells_wf {s : State} (h : s.cnt ≤ cap) : Memory.wf s.cells = true := by
  have hp : (s.buf.zipIdx.map fun p => (p.2, p.1)).Pairwise fun x y : Host.Cell => x.1 < y.1 := by
    rw [List.pairwise_map, List.pairwise_iff_getElem]
    intro i j hi hj hij
    simpa using hij
  refine Bool.and_eq_true_iff.2 ⟨decide_eq_true hp, ?_⟩
  simp only [State.cells, List.all_map, List.all_eq_true, Function.comp, decide_eq_true_eq, Prod.forall]
  intro b i hb
  have := (List.mem_zipIdx hb).2.1
  simp [State.cnt] at *
  omega

theorem State.reset_cells_wf : Memory.wf State.reset.cells = true := by decide

/-- APPEND keeps the buffer within its capacity (R76, R44). -/
theorem State.append_cnt_le {s : State} (b : Byte) (h : s.cnt ≤ cap) : (s.append b).cnt ≤ cap := by
  unfold State.append State.cnt at *
  dsimp only
  split <;> simp [State.dropOvf, cap, maxFrameSize] at * <;> omega

theorem State.discard_cnt_le {s : State} (c : Cause) (h : s.cnt ≤ cap) : (s.discard c).cnt ≤ cap := by
  simp [State.cnt] at *; omega

theorem State.accept_cnt_le {s : State} (h : s.cnt ≤ cap) : s.accept.cnt ≤ cap := by
  simp [State.cnt] at *; omega

end Sys2Proof.Machine
end

