-- ==== Sys2Proof/Laws/Parse.lean ====
section
/-! SUPPORT. The parse loop: its proof rule (R77, R84), what it never touches, and the same of RX_BYTE and FEED (R133, R136). -/

namespace Sys2Proof.Machine

/-- The proof rule of `PARSE()`: a relation that holds where the loop stops and is carried back over each removing turn holds
of every run with enough turns. -/
theorem State.parseLoop_rule {now : Timestamp} {Q : State → State → Prop}
    (hstop : ∀ s, parseTurn s.buf = .waitHdr ∨ parseTurn s.buf = .waitBody → Q s s)
    (haddr : ∀ s t, parseTurn s.buf = .dropAddr → Q s.dropAddr t → Q s t)
    (hlen : ∀ s t, parseTurn s.buf = .dropLen → Q s.dropLen t → Q s t)
    (hcrc : ∀ s t, parseTurn s.buf = .dropCrc → Q s.dropCrc t → Q s t)
    (hacc : ∀ s t, parseTurn s.buf = .accept → Q (s.takeFrame now) t → Q s t) :
    ∀ n s, s.cnt < n → Q s (State.parseLoop now n s)
  | 0, s, h => absurd h (Nat.not_lt_zero _)
  | n + 1, s, h => by
    have rule := State.parseLoop_rule hstop haddr hlen hcrc hacc n
    rcases parseTurn_cases s.buf with c | c | c | c | c | c <;> unfold State.parseLoop <;> rw [c.1]
    · exact hstop s (.inl c.1)
    · exact haddr s _ c.1 (rule _ (by have := State.discard_cnt_lt (.badAddress (cell s.buf 0)) c.2.1; exact (by
        unfold State.dropAddr; omega)))
    · exact hlen s _ c.1 (rule _ (by have := State.discard_cnt_lt (.badLength (cell s.buf 1)) c.2.1; exact (by
        unfold State.dropLen; omega)))
    · exact hstop s (.inr c.1)
    · exact hacc s _ c.1 (rule _ (by have := State.takeFrame_cnt_lt now c.2.1; omega))
    · exact hcrc s _ c.1 (rule _ (by
        have := State.discard_cnt_lt (.badCrc (candidateCrc s.buf) (frameAt s.buf).crc) c.2.1
        unfold State.dropCrc; omega))

/-- The proof rule of `PARSE()` for State.parse, whose turns are always enough (R84). -/
theorem State.parse_rule {now : Timestamp} {Q : State → State → Prop}
    (hstop : ∀ s, parseTurn s.buf = .waitHdr ∨ parseTurn s.buf = .waitBody → Q s s)
    (haddr : ∀ s t, parseTurn s.buf = .dropAddr → Q s.dropAddr t → Q s t)
    (hlen : ∀ s t, parseTurn s.buf = .dropLen → Q s.dropLen t → Q s t)
    (hcrc : ∀ s t, parseTurn s.buf = .dropCrc → Q s.dropCrc t → Q s t)
    (hacc : ∀ s t, parseTurn s.buf = .accept → Q (s.takeFrame now) t → Q s t) (s : State) :
    Q s (s.parse now) :=
  State.parseLoop_rule hstop haddr hlen hcrc hacc _ s (Nat.lt_succ_self _)

variable (s : State)

/-- A field that no micro-step of the loop writes is as it was after `PARSE()`. -/
theorem State.parse_keeps {α : Type} (g : State → α) (now : Timestamp) (hd : ∀ s c, g (State.discard s c) = g s)
    (ha : ∀ s, g (State.takeFrame s now) = g s) : g (s.parse now) = g s :=
  State.parse_rule (Q := fun s t => g t = g s) (fun _ _ => rfl) (fun _ _ _ h => h.trans (hd _ _))
    (fun _ _ _ h => h.trans (hd _ _)) (fun _ _ _ h => h.trans (hd _ _)) (fun _ _ _ h => h.trans (ha _)) s

@[simp] theorem State.parse_cfg (now : Timestamp) : (s.parse now).cfg = s.cfg :=
  s.parse_keeps State.cfg now (fun _ _ => rfl) (fun _ => by simp)

@[simp] theorem State.parse_uartConnected (now : Timestamp) : (s.parse now).uartConnected = s.uartConnected :=
  s.parse_keeps State.uartConnected now (fun _ _ => rfl) (fun _ => by simp)

@[simp] theorem State.parse_draws (now : Timestamp) : (s.parse now).draws = s.draws :=
  s.parse_keeps State.draws now (fun _ _ => rfl) (fun _ => by simp)

@[simp] theorem State.parse_pending (now : Timestamp) : (s.parse now).pending = s.pending :=
  s.parse_keeps State.pending now (fun _ _ => rfl) (fun _ => by simp)

@[simp] theorem State.parse_results (now : Timestamp) : (s.parse now).results = s.results :=
  s.parse_keeps State.results now (fun _ _ => rfl) (fun _ => by simp)

@[simp] theorem State.rxByte_cfg (b : Byte) (now : Timestamp) : (s.rxByte b now).cfg = s.cfg := by simp [State.rxByte]

@[simp] theorem State.rxByte_uartConnected (b : Byte) (now : Timestamp) :
    (s.rxByte b now).uartConnected = s.uartConnected := by simp [State.rxByte]

@[simp] theorem State.rxByte_draws (b : Byte) (now : Timestamp) : (s.rxByte b now).draws = s.draws := by
  simp [State.rxByte]

@[simp] theorem State.rxByte_pending (b : Byte) (now : Timestamp) : (s.rxByte b now).pending = s.pending := by
  simp [State.rxByte]

@[simp] theorem State.rxByte_results (b : Byte) (now : Timestamp) : (s.rxByte b now).results = s.results := by
  simp [State.rxByte]

@[simp] theorem State.feed_nil (now : Timestamp) : s.feed [] now = s := rfl

@[simp] theorem State.feed_cons (b : Byte) (bytes : List Byte) (now : Timestamp) :
    s.feed (b :: bytes) now = (s.rxByte b now).feed bytes now := rfl

@[simp] theorem State.feed_append (xs ys : List Byte) (now : Timestamp) :
    s.feed (xs ++ ys) now = (s.feed xs now).feed ys now := by simp [State.feed]

/-- A field that RX_BYTE leaves is as it was after FEED. -/
theorem State.feed_keeps {α : Type} (g : State → α) (now : Timestamp) (h : ∀ s b, g (State.rxByte s b now) = g s)
    (bytes : List Byte) : g (s.feed bytes now) = g s := by
  induction bytes generalizing s with
  | nil => rfl
  | cons b bytes ih => rw [State.feed_cons, ih, h]

/-- The events of `PARSE()` are added at the end of the events. -/
theorem State.parse_events (now : Timestamp) : ∃ evs, (s.parse now).events = s.events ++ evs := by
  refine State.parse_rule (Q := fun s t => ∃ evs, t.events = s.events ++ evs) (fun _ _ => ⟨[], by simp⟩)
    (fun _ _ _ h => h) (fun _ _ _ h => h) (fun _ _ _ h => h) (fun s t _ ⟨evs, h⟩ => ?_) s
  rcases (s.accept.noteFrame now).deliver_events (decodeFrame s.cfg.rcType (frameAt s.buf)) with hd | ⟨e, -, hd⟩
  · exact ⟨_, by rw [h, State.takeFrame, State.notify]; simp [hd]; rfl⟩
  · exact ⟨_, by rw [h, State.takeFrame, State.notify]; simp [hd]; rfl⟩

end Sys2Proof.Machine
end

