-- ==== Sys2Proof/Laws/Outputs.lean ====
section
/-! SUPPORT. What the parse loop, APPEND and TIMECHECK add to the outputs and take from the buffer, each said once. -/

namespace Sys2Proof.Machine

@[simp] theorem framesOf_append (xs ys : List Event) : framesOf (xs ++ ys) = framesOf xs ++ framesOf ys :=
  List.filterMap_append ..

@[simp] theorem bytesOfFrames_append (xs ys : List Frame) :
    bytesOfFrames (xs ++ ys) = bytesOfFrames xs + bytesOfFrames ys := by simp [bytesOfFrames]

@[simp] theorem discardsIn_append (xs ys : List Cause) : discardsIn (xs ++ ys) = discardsIn xs + discardsIn ys :=
  List.countP_append ..

/-- All that `PARSE()` does from `s` to `t`, adding the events `evs` and the causes `cs` (R77, R84, R90, R111, R152). -/
structure ParseAdds (now : Timestamp) (s t : State) (evs : List Event) (cs : List Cause) : Prop where
  events : t.events = s.events ++ evs
  trace : t.trace = s.trace ++ cs
  buf : t.buf = s.buf.drop (discardsIn cs + bytesOfFrames (framesOf evs))
  cnt : t.cnt + (discardsIn cs + bytesOfFrames (framesOf evs)) = s.cnt
  noDisconnect : Event.notifyDisconnect ∉ evs
  link : framesOf evs ≠ [] → t.linkUp = true ∧ t.lastRx = now
  noLink : framesOf evs = [] → t.linkUp = s.linkUp ∧ t.lastRx = s.lastRx

theorem ParseAdds.refl (now : Timestamp) (s : State) : ParseAdds now s s [] [] := by
  constructor <;> simp [discardsIn, framesOf, bytesOfFrames]

/-- A turn other than WAIT_HDR finds a header (R77, R85). -/
theorem two_le_of_parseTurn {buf : List Byte} (h : parseTurn buf ≠ .waitHdr) : 2 ≤ buf.length := by
  rcases parseTurn_cases buf with c | c | c | c | c | c
  · exact absurd c.1 h
  all_goals exact c.2.1

/-- A discard before the rest of the loop. -/
theorem ParseAdds.of_discard {now : Timestamp} {s t : State} (c : Cause) (hc : discardsIn [c] = 1) (h2 : 2 ≤ s.buf.length)
   (h : ∃ evs cs, ParseAdds now (s.discard c) t evs cs) : ∃ evs cs, ParseAdds now s t evs cs := by
  obtain ⟨evs, cs, h⟩ := h
  have hh : discardsIn (c :: cs) = 1 + discardsIn cs := by rw [← hc, ← discardsIn_append]; rfl
  refine ⟨evs, c :: cs, ?_, ?_, ?_, ?_, h.noDisconnect, h.link, h.noLink⟩
  · simpa using h.events
  · simpa using h.trace
  · rw [h.buf, hh, State.discard_buf, List.drop_drop]; congr 1; omega
  · have := h.cnt; simp [State.cnt] at this ⊢; rw [hh]; omega

/-- What delivering a decoder's answer adds: no frame, no discard, no Notify.Disconnect (R133, R105). -/
theorem State.deliver_adds (s : State) (d : Except Cause DecodedEvent) (hd : ∀ c, d = .error c → discardsIn [c] = 0) :
    ∃ evs cs, (s.deliver d).events = s.events ++ evs ∧ (s.deliver d).trace = s.trace ++ cs ∧ framesOf evs = [] ∧
      discardsIn cs = 0 ∧ .notifyDisconnect ∉ evs := by
  cases d with
  | error c =>
    exact ⟨[], [c], by simp [State.deliver], by simp [State.deliver], rfl, hd c rfl, by simp⟩
  | ok e => cases e <;> exact ⟨[_], [], rfl, by simp [State.deliver], rfl, rfl, by simp [DecodedEvent.event]⟩

/-- The decoder's causes are no discards (R152). -/
theorem decodeFrame_no_discard {rcType : Byte} {f : Frame} {c : Cause} (h : decodeFrame rcType f = .error c) :
    discardsIn [c] = 0 := by
  unfold decodeFrame decodeRc decodeCc at h
  split at h
  · split at h <;> cases h; rfl
  · split at h
    · split at h <;> cases h; rfl
    · cases h; rfl

/-- The spec of `PARSE()`: everything it can do. -/
theorem State.parse_adds (now : Timestamp) (s : State) : ∃ evs cs, ParseAdds now s (s.parse now) evs cs := by
  refine State.parse_rule (Q := fun s t => ∃ evs cs, ParseAdds now s t evs cs) (fun s _ => ⟨_, _, .refl now s⟩)
    (fun _ _ ht => ParseAdds.of_discard _ rfl (two_le_of_parseTurn (by simp [ht])))
    (fun _ _ ht => ParseAdds.of_discard _ rfl (two_le_of_parseTurn (by simp [ht])))
    (fun _ _ ht => ParseAdds.of_discard _ rfl (two_le_of_parseTurn (by simp [ht]))) ?_ s
  · intro s t ht ⟨evs, cs, h⟩
    obtain ⟨d1, d2, e1, e2, e3, e4, e5⟩ := (s.accept.noteFrame now).deliver_adds
      (decodeFrame s.cfg.rcType (frameAt s.buf)) (fun _ => decodeFrame_no_discard)
    have hc : (s.takeFrame now) = (s.accept.noteFrame now).deliver (decodeFrame s.cfg.rcType (frameAt s.buf)) := rfl
    have hsz : candidateSize s.buf ≤ s.buf.length := by
      rcases parseTurn_cases s.buf with c | c | c | c | c | c <;> rw [c.1] at ht <;> try cases ht
      exact c.2.2.2.2.1
    have hf : framesOf (.evFrame (frameAt s.buf) :: (d1 ++ evs)) = frameAt s.buf :: framesOf evs := by
      show _ :: framesOf (d1 ++ evs) = _
      rw [framesOf_append, e3]; rfl
    have hb : bytesOfFrames (frameAt s.buf :: framesOf evs) = candidateSize s.buf + bytesOfFrames (framesOf evs) := by
      simp [bytesOfFrames, candidateSize, frameAt]
    have hdi : discardsIn (d2 ++ cs) = discardsIn cs := by rw [discardsIn_append, e4]; omega
    refine ⟨.evFrame (frameAt s.buf) :: (d1 ++ evs), d2 ++ cs, ?_, ?_, ?_, ?_, ?_, ?_, ?_⟩
    · rw [h.events, hc, e1]; simp
    · rw [h.trace, hc, e2]; simp
    · rw [h.buf, hf, hb, hdi]; simp; congr 1; omega
    · have := h.cnt; rw [hf, hb, hdi]; simp [State.cnt] at this ⊢; omega
    · simp [e5, h.noDisconnect]
    · intro _
      by_cases hn : framesOf evs = []
      · have := h.noLink hn; simpa using this
      · exact h.link hn
    · rw [hf]; simp

/-- APPEND adds the byte last and discards at most the oldest (R76, R83). -/
theorem State.append_adds (s : State) (b : Byte) : ∃ cs,
    (s.append b).events = s.events ∧ (s.append b).trace = s.trace ++ cs ∧
    (s.append b).buf = (s.buf ++ [b]).drop (discardsIn cs) ∧ (s.append b).cnt + discardsIn cs = s.cnt + 1 := by
  by_cases h : s.cnt = cap
  · refine ⟨[.overflow], by simp [State.append, h], by simp [State.append, h], ?_, ?_⟩
    · have : s.buf ≠ [] := by rintro h'; simp [State.cnt, h', cap, maxFrameSize] at h
      simp [State.append, h, discardsIn, List.tail_append_of_ne_nil this]
    · have h' : s.buf.length = 64 := h
      simp [State.append, discardsIn, State.cnt, h', cap, maxFrameSize]
  · have h' : ¬ s.buf.length = cap := h
    refine ⟨[], ?_, ?_, ?_, ?_⟩ <;> simp [State.append, h', discardsIn, State.cnt]

/-- TIMECHECK adds no frame (R113). -/
theorem State.timecheck_adds (s : State) (now : Timestamp) :
    ∃ evs, (s.timecheck now).events = s.events ++ evs ∧ framesOf evs = [] := by
  unfold State.timecheck
  split
  · exact ⟨_, rfl, rfl⟩
  · exact ⟨[], by simp, rfl⟩

end Sys2Proof.Machine
end

