-- ==== Sys2Proof/Laws/PerInstr.lean ====
section
/-! SUPPORT. Facts about every instruction as syntax, one lemma per constructor. EncodeFormat: the encoder puts each row at the
input that spec/opcode_table.json's format gives it (30_encoding.md R61). -/

namespace Sys2Proof.Laws.EncodeFormat

/-- What the encoder builds for `i` has the table's format of `i`, whatever `RC_TYPE` is. -/
def Statement (i : Instr) : Prop := ∀ rcType : Byte, (encode rcType i).format = i.format

theorem nop : Statement (.nop) := fun _ => rfl
theorem rxByte (a : Byte) (b : Timestamp) : Statement (.rxByte a b) := fun _ => rfl
theorem poll (a : Timestamp) : Statement (.poll a) := fun _ => rfl
theorem setUart (a : Bool) : Statement (.setUart a) := fun _ => rfl
theorem encode (a : Byte) : Statement (.encode a) := fun _ => rfl
theorem reset : Statement (.reset) := fun _ => rfl
theorem reserved6 : Statement (.reserved6) := fun _ => rfl
theorem reserved7 : Statement (.reserved7) := fun _ => rfl
theorem feed (a : List Byte) (b : Timestamp) : Statement (.feed a b) := fun _ => rfl
theorem append (a : Byte) : Statement (.append a) := fun _ => rfl
theorem dropOvf : Statement (.dropOvf) := fun _ => rfl
theorem waitHdr : Statement (.waitHdr) := fun _ => rfl
theorem dropAddr : Statement (.dropAddr) := fun _ => rfl
theorem dropLen : Statement (.dropLen) := fun _ => rfl
theorem waitBody : Statement (.waitBody) := fun _ => rfl
theorem accept : Statement (.accept) := fun _ => rfl
theorem dropCrc : Statement (.dropCrc) := fun _ => rfl
theorem noteFrame (a : Timestamp) : Statement (.noteFrame a) := fun _ => rfl
theorem isConnected (a : Timestamp) : Statement (.isConnected a) := fun _ => rfl
theorem timecheck (a : Timestamp) : Statement (.timecheck a) := fun _ => rfl
theorem crc8Step (a b : Byte) : Statement (.crc8Step a b) := fun _ => rfl
theorem crc8Compute (a : List Byte) : Statement (.crc8Compute a) := fun _ => rfl
theorem crc8Verify (a : List Byte) (b : Byte) : Statement (.crc8Verify a b) := fun _ => rfl
theorem rcChannels (a : Byte) (b : List Byte) (c : Byte) : Statement (.rcChannels a b c) := fun _ => rfl
theorem ccEnterWifi (a b : Byte) (c : List Byte) (d : Byte) : Statement (.ccEnterWifi a b c d) := fun _ => rfl
theorem ccEnterBind (a b : Byte) (c : List Byte) (d : Byte) : Statement (.ccEnterBind a b c d) := fun _ => rfl
theorem ccReceiveData (a b : Byte) (c : List Byte) (d : Byte) : Statement (.ccReceiveData a b c d) := fun _ => rfl
theorem ccSetStatus (a b : Byte) (c : List Byte) (d : Byte) : Statement (.ccSetStatus a b c d) := fun _ => rfl
theorem ccReconnect (a b : Byte) (c : List Byte) (d : Byte) : Statement (.ccReconnect a b c d) := fun _ => rfl
theorem ccDisconnect (a b : Byte) (c : List Byte) (d : Byte) : Statement (.ccDisconnect a b c d) := fun _ => rfl
theorem ccQueryBinding (a b : Byte) (c : List Byte) (d : Byte) : Statement (.ccQueryBinding a b c d) := fun _ => rfl
theorem ccQueryUartLinked (a b : Byte) (c : List Byte) (d : Byte) : Statement (.ccQueryUartLinked a b c d) := fun _ => rfl
theorem rcBadLen (a b : Byte) (c : List Byte) (d : Byte) : Statement (.rcBadLen a b c d) := fun _ => rfl
theorem ccUnknown (a b c : Byte) (d : List Byte) (e : Byte) : Statement (.ccUnknown a b c d e) := fun _ => rfl
theorem otherType (a b c : Byte) (d : List Byte) (e : Byte) : Statement (.otherType a b c d e) := fun _ => rfl
theorem txEnterWifi : Statement (.txEnterWifi) := fun _ => rfl
theorem txEnterBind : Statement (.txEnterBind) := fun _ => rfl
theorem txReceiveData : Statement (.txReceiveData) := fun _ => rfl
theorem txSetStatus : Statement (.txSetStatus) := fun _ => rfl
theorem txReconnect : Statement (.txReconnect) := fun _ => rfl
theorem txDisconnect : Statement (.txDisconnect) := fun _ => rfl
theorem txQueryBinding : Statement (.txQueryBinding) := fun _ => rfl
theorem txQueryUartLinked : Statement (.txQueryUartLinked) := fun _ => rfl

end Sys2Proof.Laws.EncodeFormat
end

