-- ==== Sys2Proof/Tests/Slice0.lean ====
section
/-! SUPPORT. The model's own tests. Expected results are the spec's: the encodings of 30_encoding.md and opcode_table.json, the
worked examples of the rules, the vectors of 95_test_vectors.md (each theorem names its vector). Beside them, for every
statement with hypotheses, a witness that meets them. -/

namespace Sys2Proof.Tests

open Sys2Proof Sys2Proof.Machine

/-- A small state: the reset values of 10_state.md R20 with `RC_TYPE` = 0x16, a given timeout, and a concrete `last_rx`. -/
def small (timeout : Timestamp) : State :=
  { cfg := ⟨timeout, 0x16, 1⟩, buf := [], linkUp := false, uartConnected := false, lastRx := 0, draws := 1,
    pending := [], events := [], results := [], trace := [] }

/-- The link up, last frame at `t`, timeout 1000. -/
def live (t : Timestamp) : State := { small 1000 with linkUp := true, lastRx := t }

/-- The state that `exec` answers; `s` itself where it stops. -/
def after (i : Instr) (s : State) : State :=
  match exec i s with
  | .next t => t
  | .fault _ => s
  | .refused _ => s

/-- V-RC7: the ChannelSet and its payload. -/
def vRc7 : ChannelSet := #v[172, 992, 1810, 0, 2047, 1, 1024, 1023, 172, 992, 1810, 0, 2047, 1, 1024, 1023]
def vRc7Payload : List Byte :=
  [0xAC, 0x00, 0x9F, 0xC4, 0x01, 0xF0, 0xFF, 0x00, 0x00, 0xF0, 0x7F,
   0xAC, 0x00, 0x9F, 0xC4, 0x01, 0xF0, 0xFF, 0x00, 0x00, 0xF0, 0x7F]

/-- `EE 03 31 02 71` (R186). -/
def bindFrame : Frame := ⟨0xEE, 0x03, 0x31, [0x02], 0x71⟩

/-- V-RE11: the 64-byte frame, payload 00 .. 3B, crc 0E. -/
def longFrame : Frame := ⟨0xC8, 0x3E, 0x7F, (List.range 60).map (BitVec.ofNat 8), 0x0E⟩

/-! ## Decoding, each constructor from a word of the spec -/

theorem test_decode_nop : decode 0x16 (.hostop 0x0000000000000000000) = .ok (.nop) := by decide
theorem test_decode_rx_byte : decode 0x16 (.hostop 0x1710000000000000064) = .ok (.rxByte 0x71 100) := by decide
theorem test_decode_poll : decode 0x16 (.hostop 0x200000000000000270F) = .ok (.poll 9999) := by decide
theorem test_decode_set_uart : decode 0x16 (.hostop 0x3010000000000000000) = .ok (.setUart true) := by decide
theorem test_decode_encode : decode 0x16 (.hostop 0x4020000000000000000) = .ok (.encode 0x02) := by decide
theorem test_decode_reset : decode 0x16 (.hostop 0x5000000000000000000) = .ok (.reset) := by decide
theorem test_decode_reserved6 : decode 0x16 (.hostop 0x6000000000000000000) = .ok (.reserved6) := by decide
theorem test_decode_reserved7 : decode 0x16 (.hostop 0x7000000000000000000) = .ok (.reserved7) := by decide

/-- SET_UART reads bit 0 of `data` alone (R57): bits 7..1 and `now` are ignored. -/
theorem test_decode_set_uart_ignored_bits : decode 0x16 (.hostop 0x3FE00000000000000FF) = .ok (.setUart false) := by decide

theorem test_decode_ccEnterWifi : decode 0x16 (.rxframe [0xEE, 0x03, 0x31, 0x01, 0xDB]) = .ok (.ccEnterWifi 0xEE 0x03 [] 0xDB) := by decide
theorem test_decode_ccEnterBind : decode 0x16 (.rxframe [0xEE, 0x03, 0x31, 0x02, 0x71]) = .ok (.ccEnterBind 0xEE 0x03 [] 0x71) := by decide
theorem test_decode_ccReceiveData : decode 0x16 (.rxframe [0xEE, 0x03, 0x31, 0x03, 0xA4]) = .ok (.ccReceiveData 0xEE 0x03 [] 0xA4) := by decide
theorem test_decode_ccSetStatus : decode 0x16 (.rxframe [0xEE, 0x03, 0x31, 0x04, 0xF0]) = .ok (.ccSetStatus 0xEE 0x03 [] 0xF0) := by decide
theorem test_decode_ccReconnect : decode 0x16 (.rxframe [0xEE, 0x03, 0x31, 0x05, 0x25]) = .ok (.ccReconnect 0xEE 0x03 [] 0x25) := by decide
theorem test_decode_ccDisconnect : decode 0x16 (.rxframe [0xEE, 0x03, 0x31, 0x06, 0x8F]) = .ok (.ccDisconnect 0xEE 0x03 [] 0x8F) := by decide
theorem test_decode_ccQueryBinding : decode 0x16 (.rxframe [0xEE, 0x03, 0x31, 0x07, 0x5A]) = .ok (.ccQueryBinding 0xEE 0x03 [] 0x5A) := by decide
theorem test_decode_ccQueryUartLinked : decode 0x16 (.rxframe [0xEE, 0x03, 0x31, 0x08, 0x27]) = .ok (.ccQueryUartLinked 0xEE 0x03 [] 0x27) := by decide

theorem test_decode_rc_channels : decode 0x16 (.rxframe ([0xC8, 0x18, 0x16] ++ vRc7Payload ++ [0x37])) =
    .ok (.rcChannels 0xC8 vRc7Payload 0x37) := by decide
/-- V-RC9: 21 payload bytes. -/
theorem test_decode_rc_badlen : decode 0x16 (.rxframe ([0xC8, 0x17, 0x16] ++ List.replicate 21 0xE0 ++ [0x84])) =
    .ok (.rcBadLen 0xC8 0x17 (List.replicate 21 0xE0) 0x84) := by decide
/-- V-CC10. -/
theorem test_decode_cc_unknown : decode 0x16 (.rxframe [0xEE, 0x03, 0x31, 0xFF, 0xF7]) =
    .ok (.ccUnknown 0xEE 0x03 0xFF [] 0xF7) := by decide
/-- V-OT1. -/
theorem test_decode_other_type : decode 0x16 (.rxframe [0xEE, 0x04, 0x2D, 0x01, 0x02, 0x50]) =
    .ok (.otherType 0xEE 0x04 0x2D [0x01, 0x02] 0x50) := by decide
theorem test_decode_short_frame : decode 0x16 (.rxframe [0xEE, 0x03, 0x31, 0x01]) = .error .shortFrame := by decide

theorem test_decode_txEnterWifi : decode 0x16 (.txframe [0xEE, 0x03, 0x31, 0x01, 0xDB]) = .ok .txEnterWifi := by decide
theorem test_decode_txEnterBind : decode 0x16 (.txframe [0xEE, 0x03, 0x31, 0x02, 0x71]) = .ok .txEnterBind := by decide
theorem test_decode_txReceiveData : decode 0x16 (.txframe [0xEE, 0x03, 0x31, 0x03, 0xA4]) = .ok .txReceiveData := by decide
theorem test_decode_txSetStatus : decode 0x16 (.txframe [0xEE, 0x03, 0x31, 0x04, 0xF0]) = .ok .txSetStatus := by decide
theorem test_decode_txReconnect : decode 0x16 (.txframe [0xEE, 0x03, 0x31, 0x05, 0x25]) = .ok .txReconnect := by decide
theorem test_decode_txDisconnect : decode 0x16 (.txframe [0xEE, 0x03, 0x31, 0x06, 0x8F]) = .ok .txDisconnect := by decide
theorem test_decode_txQueryBinding : decode 0x16 (.txframe [0xEE, 0x03, 0x31, 0x07, 0x5A]) = .ok .txQueryBinding := by decide
theorem test_decode_txQueryUartLinked : decode 0x16 (.txframe [0xEE, 0x03, 0x31, 0x08, 0x27]) = .ok .txQueryUartLinked := by decide
theorem test_decode_not_transmitted : decode 0x16 (.txframe [0xEE, 0x03, 0x31, 0x09, 0xF2]) =
    .error .notATransmittedFrame := by decide

/-- The table's words, numbered as the table numbers them. -/
theorem test_table_words :
    decodeTableWord 80 0x1EE0000000000000064 = some (.rxByte 0xEE 100) ∧
    decodeTableWord 32 0x00003106 = some (.ccDisconnect 0x00 0x00 [] 0x00) ∧
    decodeTableWord 32 0x00181600 = some (.rcChannels 0x00 (List.replicate 22 0x00) 0x00) ∧
    decodeTableWord 32 0xEE051600 = some (.rcBadLen 0xEE 0x05 [0x00, 0x00, 0x00] 0x00) ∧
    decodeTableWord 40 0xEE033104F0 = some .txSetStatus ∧ decodeTableWord 40 0xEE033104F1 = none := by decide

/-- From reset, the fetched word runs as the first instruction. -/
theorem test_fetched_word_runs :
    step (State.reset.withFetchWord 32 0x00003106) = exec (.ccDisconnect 0x00 0x00 [] 0x00) State.reset ∧
    step (State.reset.withFetchWord 80 0x4020000000000000000) = exec (.encode 0x02) State.reset := ⟨rfl, rfl⟩

/-! ## Well-formedness: each check refuses an ill-formed term -/

set_option maxRecDepth 20000 in
theorem test_wf_accepts : Instr.wf 0x16 (.ccEnterBind 0xEE 0x03 [] 0x71) = true ∧
    Instr.wf 0x16 (.rcChannels 0xC8 vRc7Payload 0x37) = true := by decide
theorem test_wf_refuses_address : Instr.wf 0x16 (.ccEnterBind 0xEF 0x03 [] 0x71) = false := by decide
theorem test_wf_refuses_short_length : Instr.wf 0x16 (.ccEnterBind 0xEE 0x02 [] 0x71) = false := by decide
theorem test_wf_refuses_long_length : Instr.wf 0x16 (.otherType 0xEE 0x3F 0x7F (List.replicate 61 0) 0) = false := by decide
theorem test_wf_refuses_payload_size : Instr.wf 0x16 (.ccEnterBind 0xEE 0x04 [] 0x71) = false := by decide
theorem test_wf_refuses_crc : Instr.wf 0x16 (.ccEnterBind 0xEE 0x03 [] 0x70) = false := by decide
set_option maxRecDepth 20000 in
/-- The frame is V-RC1, which RC_CHANNELS selects. -/
theorem test_wf_refuses_rc_badlen_24 :
    Instr.wf 0x16 (.rcBadLen 0xC8 0x18 (List.replicate 22 0x00) 0xEF) = false := by decide
/-- The frame is V-CC2, which CC.EnterBind selects. -/
theorem test_wf_refuses_known_code : Instr.wf 0x16 (.ccUnknown 0xEE 0x03 0x02 [] 0x71) = false := by decide
theorem test_wf_refuses_cc_as_other : Instr.wf 0x16 (.otherType 0xEE 0x03 0x31 [0x02] 0x71) = false := by decide
set_option maxRecDepth 20000 in
theorem test_wf_refuses_rc_as_other :
    Instr.wf 0x16 (.otherType 0xC8 0x18 0x16 (List.replicate 22 0x00) 0xEF) = false := by decide
theorem test_config_refuses_rc_type_31 : Config.wf ⟨1000, 0x31, 1⟩ = false := by decide

/-! ## The CRC8 validator: V-C3 to V-C14, R74 -/

theorem test_crc_step : (after (.crc8Step 0x23 0x02) (small 0)).results = [.crcByte 0x71] := by decide
theorem test_crc_compute_check_value :
    (after (.crc8Compute [0x31, 0x32, 0x33, 0x34, 0x35, 0x36, 0x37, 0x38, 0x39]) (small 0)).results =
      [.crcByte 0xBC] := by decide
theorem test_crc_compute_v_c9 : crc8 [0xFF, 0xFF, 0xFF, 0xFF] = 0x21 := by decide
theorem test_crc_verify : (after (.crc8Verify [0x31, 0x12] 0x71) (small 0)).results = [.crcValid false] := by decide
theorem test_crc_v_c13 : crc8 [0xEE, 0x03, 0x31, 0x02, 0x71] = 0x33 := by decide
set_option maxRecDepth 20000 in
theorem test_crc_bit_serial : crcBitwise [0x31, 0x02] = 0x71 ∧ crcBitwise [0x80] = 0xEF := by decide

/-! ## The reassembler: worked examples of R76 to R85, vectors V-RE -/

theorem test_append : (after (.append 0xEE) (small 0)).buf = [0xEE] := by decide
/-- R83: the buffer full. -/
theorem test_append_full : (after (.append 0x01) { small 0 with buf := List.replicate 64 0xEE }).buf =
    List.replicate 63 0xEE ++ [0x01] := by decide
theorem test_drop_ovf : (after .dropOvf { small 0 with buf := List.replicate 64 0xEE }).buf =
    List.replicate 63 0xEE := by decide
theorem test_drop_addr : (after .dropAddr { small 0 with buf := [0x00, 0xC8] }).buf = [0xC8] := by decide
theorem test_drop_len : (after .dropLen { small 0 with buf := [0xEE, 0xC8, 0x03] }).buf = [0xC8, 0x03] := by decide
theorem test_drop_len_62 : after .dropLen { small 0 with buf := [0xC8, 0x3E] } =
    { small 0 with buf := [0xC8, 0x3E] } := by decide
theorem test_wait_body : parseTurn [0xEE, 0x03, 0x31] = .waitBody ∧
    after .waitBody { small 0 with buf := [0xEE, 0x03, 0x31] } = { small 0 with buf := [0xEE, 0x03, 0x31] } := by decide
theorem test_wait_hdr : parseTurn [0x71] = .waitHdr ∧
    after .waitHdr { small 0 with buf := [0x71] } = { small 0 with buf := [0x71] } := by decide
theorem test_accept : after .accept { small 0 with buf := [0xEE, 0x03, 0x31, 0x02, 0x71] } =
    { small 0 with events := [.evFrame bindFrame] } := by decide
theorem test_drop_crc : after .dropCrc { small 0 with buf := [0xEE, 0x03, 0x31, 0x12, 0x71] } =
    { small 0 with buf := [0x03, 0x31, 0x12, 0x71], trace := [.badCrc 0x23 0x71] } := by decide
/-- Property S2's instance: the last byte of a corrupted frame. -/
theorem test_rx_byte_corrupted : after (.rxByte 0x71 1) { small 1000 with buf := [0xEE, 0x03, 0x31, 0x12] } =
    { small 1000 with
      buf := [0x71]
      trace := [.badCrc 0x23 0x71, .badAddress 0x03, .badAddress 0x31, .badAddress 0x12] } := by decide
/-- V-RE5: the false candidate's last byte releases the frame it held. -/
theorem test_rx_byte_swallowed :
    after (.rxByte 0x00 2) { small 1000 with buf := [0xC8, 0x06, 0xEE, 0x03, 0x31, 0x02, 0x71] } =
    { small 1000 with
      buf := [0x00], linkUp := true, lastRx := 2
      events := [.evFrame bindFrame, .notifyCommand .enterBind]
      trace := [.badCrc 0x33 0x00, .badAddress 0x06] } := by decide
/-- V-RE7. -/
theorem test_feed_back_to_back :
    (after (.feed [0xEE, 0x03, 0x31, 0x01, 0xDB, 0xEE, 0x03, 0x31, 0x02, 0x71] 9) (small 1000)).events =
    [.evFrame ⟨0xEE, 0x03, 0x31, [0x01], 0xDB⟩, .notifyCommand .enterWifi,
     .evFrame bindFrame, .notifyCommand .enterBind] := by decide
set_option maxRecDepth 20000 in
/-- V-RE13: the 64th byte of the stream releases twelve frames; 24 events, `buf = [00]`. -/
theorem test_rx_byte_twelve_frames :
    let t := after (.rxByte 0x00 7) { small 1000 with buf :=
      [0xC8, 0x3E, 0xEE, 0x03, 0x31, 0x01, 0xDB, 0xEE, 0x03, 0x31, 0x02, 0x71, 0xEE, 0x03, 0x31, 0x03, 0xA4,
       0xEE, 0x03, 0x31, 0x04, 0xF0, 0xEE, 0x03, 0x31, 0x05, 0x25, 0xEE, 0x03, 0x31, 0x06, 0x8F,
       0xEE, 0x03, 0x31, 0x07, 0x5A, 0xEE, 0x03, 0x31, 0x08, 0x27, 0xEE, 0x03, 0x31, 0x01, 0xDB,
       0xEE, 0x03, 0x31, 0x02, 0x71, 0xEE, 0x03, 0x31, 0x03, 0xA4, 0xEE, 0x03, 0x31, 0x04, 0xF0, 0x00] }
    t.events.length = 24 ∧ (framesOf t.events).length = 12 ∧ t.buf = [0x00] ∧ t.trace.head? = some (.badCrc 0xBD 0x00) := by
  decide

/-! ## The tracker: V-LT2, V-LT3, V-LT7, V-LT8 -/

theorem test_note_frame : after (.noteFrame 100) (small 1000) = { small 1000 with linkUp := true, lastRx := 100 } := by decide
theorem test_is_connected : (after (.isConnected 5999) (live 5000)).results = [.connected true] ∧
    (after (.isConnected 6000) (live 5000)).results = [.connected false] := by decide
theorem test_timecheck : after (.timecheck 6000) (live 5000) =
    { live 5000 with linkUp := false, events := [.notifyDisconnect] } := by decide
theorem test_poll : after (.poll 6000) (live 5000) =
    { live 5000 with linkUp := false, events := [.notifyDisconnect], results := [.connected false] } := by decide
/-- V-LT7 (wrap-around) and V-LT8 (the host breaks monotonicity). -/
theorem test_poll_wraps : (after (.poll 989) (live 18446744073709551606)).results = [.connected true] ∧
    (after (.poll 4000) (live 5000)).events = [.notifyDisconnect] := by decide
/-- V-LT3: a late frame with no poll in between. -/
theorem test_feed_late_frame : (after (.feed [0xEA, 0x03, 0x31, 0x05, 0x25] 6500) (live 5000)).events =
    [.notifyDisconnect, .evFrame ⟨0xEA, 0x03, 0x31, [0x05], 0x25⟩, .notifyCommand .reconnect] := by decide

/-! ## The decoder: V-RC, V-CC, V-OT -/

theorem test_rc_channels : (after (.rcChannels 0xC8 vRc7Payload 0x37) (small 0)).events = [.notifyChannels vRc7] := by decide
/-- V-RC8. -/
theorem test_rc_channels_v_rc8 :
    (after (.rcChannels 0xEA ((List.range 22).map (BitVec.ofNat 8)) 0x8D) (small 0)).events =
    [.notifyChannels #v[256, 64, 12, 642, 96, 14, 578, 80, 1035, 417, 1080, 7, 273, 1572, 1284, 168]] := by decide
theorem test_pack_channels : packChannels vRc7 = vRc7Payload := by decide
theorem test_rc_bad_len : after (.rcBadLen 0xC8 0x17 [] 0x84) (small 0) =
    { small 0 with trace := [.badRcLength 0x17] } := by decide
theorem test_cc_unknown : after (.ccUnknown 0xEE 0x03 0xFF [] 0xF7) (small 0) =
    { small 0 with trace := [.unknownSubcommand 0xFF] } := by decide
theorem test_other_type : after (.otherType 0xEE 0x04 0x2D [0x01, 0x02] 0x50) (small 0) =
    { small 0 with trace := [.unknownType 0x2D] } := by decide

theorem test_ccEnterWifi : (after (.ccEnterWifi 0xEE 0x03 [] 0xDB) (small 0)).events = [.notifyCommand .enterWifi] := by decide
theorem test_ccEnterBind : (after (.ccEnterBind 0xEE 0x03 [] 0x71) (small 0)).events = [.notifyCommand .enterBind] := by decide
theorem test_ccReceiveData : (after (.ccReceiveData 0xEE 0x03 [] 0xA4) (small 0)).events = [.notifyCommand .receiveData] := by decide
theorem test_ccSetStatus : (after (.ccSetStatus 0xEE 0x03 [] 0xF0) (small 0)).events = [.notifyCommand .setStatus] := by decide
theorem test_ccReconnect : (after (.ccReconnect 0xEE 0x03 [] 0x25) (small 0)).events = [.notifyCommand .reconnect] := by decide
theorem test_ccDisconnect : (after (.ccDisconnect 0xEE 0x03 [] 0x8F) (small 0)).events = [.notifyCommand .disconnect] := by decide
theorem test_ccQueryBinding : (after (.ccQueryBinding 0xEE 0x03 [] 0x5A) (small 0)).events = [.notifyCommand .queryBinding] := by decide
theorem test_ccQueryUartLinked : (after (.ccQueryUartLinked 0xEE 0x03 [] 0x27) (small 0)).events = [.notifyCommand .queryUartLinked] := by decide

/-! ## The encoder: V-EN -/

theorem test_txEnterWifi : (after .txEnterWifi (small 0)).events =
    [.txByte 0xEE, .txByte 0x03, .txByte 0x31, .txByte 0x01, .txByte 0xDB] := by decide
theorem test_txEnterBind : (after .txEnterBind (small 0)).events =
    [.txByte 0xEE, .txByte 0x03, .txByte 0x31, .txByte 0x02, .txByte 0x71] := by decide
theorem test_txReceiveData : (after .txReceiveData (small 0)).events =
    [.txByte 0xEE, .txByte 0x03, .txByte 0x31, .txByte 0x03, .txByte 0xA4] := by decide
theorem test_txSetStatus : (after .txSetStatus (small 0)).events =
    [.txByte 0xEE, .txByte 0x03, .txByte 0x31, .txByte 0x04, .txByte 0xF0] := by decide
theorem test_txReconnect : (after .txReconnect (small 0)).events =
    [.txByte 0xEE, .txByte 0x03, .txByte 0x31, .txByte 0x05, .txByte 0x25] := by decide
theorem test_txDisconnect : (after .txDisconnect (small 0)).events =
    [.txByte 0xEE, .txByte 0x03, .txByte 0x31, .txByte 0x06, .txByte 0x8F] := by decide
theorem test_txQueryBinding : (after .txQueryBinding (small 0)).events =
    [.txByte 0xEE, .txByte 0x03, .txByte 0x31, .txByte 0x07, .txByte 0x5A] := by decide
theorem test_txQueryUartLinked : (after .txQueryUartLinked (small 0)).events =
    [.txByte 0xEE, .txByte 0x03, .txByte 0x31, .txByte 0x08, .txByte 0x27] := by decide
theorem test_encode : (after (.encode 0x02) (small 0)).events =
    [.txByte 0xEE, .txByte 0x03, .txByte 0x31, .txByte 0x02, .txByte 0x71] := by decide
theorem test_encode_refused : after (.encode 0x09) (small 0) = { small 0 with trace := [.encodeRefused 0x09] } := by decide

/-! ## Operations and reset: V-OP, V-RS -/

theorem test_nop : after .nop (live 7) = live 7 := by decide
theorem test_reserved6 : after .reserved6 (live 7) = live 7 := by decide
theorem test_reserved7 : after .reserved7 (live 7) = live 7 := by decide
theorem test_set_uart : after (.setUart true) (live 7) = { live 7 with uartConnected := true } := by decide
/-- V-RS2: no Notify.Disconnect. -/
theorem test_reset : (after .reset (live 7)).linkUp = false ∧ (after .reset (live 7)).events = [] := by decide
/-- V-OP2: FEED [] runs no timeout check. -/
theorem test_feed_nothing : after (.feed [] 5000) (live 0) = live 0 := by decide

/-! ## Witnesses: states and operands that meet each statement's hypotheses -/

theorem witness_ResetOperationClearsTheEngine :
    opField 0x5000000000000000000 = 5 ∧ ∃ s : State, s.buf = [0xEE, 0x03, 0x31] ∧ s.linkUp = true :=
  ⟨by decide, { live 7 with buf := [0xEE, 0x03, 0x31] }, by decide, by decide⟩
theorem witness_NopAndReservedOperationsChangeNothing : opField 0x0FF0000000000000000 = 0 ∧
    opField 0x6000000000000000000 = 6 ∧ opField 0x7FFFFFFFFFFFFFFFFFF = 7 := by decide
theorem witness_SetUartWritesOnlyItsFlag : opField 0x3010000000000000000 = 3 := by decide
theorem witness_StepRunsTheDecodedInstruction :
    (∃ s : State, ∃ q rest i, s.pending = q :: rest ∧ decode s.cfg.rcType q = .ok i) ∧
    (∃ s : State, ∃ q rest e, s.pending = q :: rest ∧ decode s.cfg.rcType q = .error e) :=
  ⟨⟨{ small 0 with pending := [.hostop 0] }, .hostop 0, [], .nop, rfl, by decide⟩,
   ⟨{ small 0 with pending := [.txframe []] }, .txframe [], [], .notATransmittedFrame, rfl, by decide⟩⟩
theorem witness_StepWithNothingIssuedChangesNothing : (live 7).pending = [] := rfl
theorem witness_OperationsNeverFaultAndAreNeverRefused :
    ({ small 0 with pending := [.hostop 0x4FF0000000000000000] } : State).pending =
      [.hostop 0x4FF0000000000000000] := rfl
theorem witness_HostWordFieldsAreReadWhole :
    opField 0x1EE0000000000000064 = 1 ∧ opField 0x200000000000000176F = 2 ∧ opField 0x3FF0000000000000001 = 3 ∧
    opField 0x4FF0000000000000001 = 4 ∧ opField 0x0FF0000000000000001 = 0 ∧ opField 0x5FF0000000000000001 = 5 ∧
    opField 0x6FF0000000000000001 = 6 ∧ opField 0x7FF0000000000000001 = 7 := by decide
theorem witness_DecodeOfEncodeIsTheInstruction : (0x16 : Byte) ≠ 0x31 ∧
    Instr.wf 0x16 (.otherType 0xEE 0x04 0x2D [0x01, 0x02] 0x50) = true := by decide
set_option maxRecDepth 20000 in
theorem witness_ValidatedFrameDecodesToAWellFormedRow :
    (0x16 : Byte) ≠ 0x31 ∧ bindFrame.valid = true ∧ longFrame.valid = true := by decide
theorem witness_CrcIsLinear : ([0x31, 0x02] : List Byte).length = ([0x80, 0xFF] : List Byte).length := rfl
theorem witness_OddBitErrorsAreDetected : ([0x00, 0x10] : List Byte).length = ([0x31, 0x02] : List Byte).length ∧
    crc8Verify [0x31, 0x02] 0x71 = true ∧ bitWeight ([0x00, 0x10] ++ [0x00]) % 2 = 1 := by decide
theorem witness_ShortBurstsAreDetected : crc8 [0x31, 0x02, 0x71] = 0x00 ∧
    ([0x31, 0x02, 0x71] : List Byte).length = 1 + 2 + 0 ∧ (0xFF : Byte) ≠ 0 ∧ 8 ≤ 8 := by decide
theorem witness_AppendAddsTheByteAtTheEnd :
    ({ small 0 with buf := List.replicate 63 0xEE } : State).cnt ≠ 64 ∧
    ({ small 0 with buf := List.replicate 64 0xEE } : State).cnt = 64 := by decide
/-- The boundary lengths 2 and 63 of the second clause, and the corrupted frame of S2 for the third. -/
theorem witness_DiscardsRemoveExactlyTheFirstByte :
    ((0xEF : Byte) ≠ 0xEE ∧ (0xEF : Byte) ≠ 0xEA ∧ (0xEF : Byte) ≠ 0xC8) ∧
    ((0x02 : Byte).toNat < 3 ∧ 62 < (0x3F : Byte).toNat) ∧
    (let f : Frame := ⟨0xEE, 0x03, 0x31, [0x12], 0x71⟩
     f.wire ++ [] = [0xEE, 0x03, 0x31, 0x12, 0x71] ∧ 3 ≤ f.length.toNat ∧ f.length.toNat ≤ 62 ∧
       f.payload.length + 2 = f.length.toNat ∧ crc8 (f.type :: f.payload) ≠ f.crc) := by decide
set_option maxRecDepth 20000 in
/-- The shortest and the longest frame. -/
theorem witness_AcceptEmitsAndConsumesTheFrame :
    (∃ s : State, s.buf = bindFrame.wire ++ [0x00] ∧ bindFrame.valid = true) ∧
    (∃ s : State, s.buf = longFrame.wire ++ [] ∧ longFrame.valid = true) :=
  ⟨⟨{ small 0 with buf := bindFrame.wire ++ [0x00] }, rfl, by decide⟩,
   ⟨{ small 0 with buf := longFrame.wire ++ [] }, rfl, by decide⟩⟩
theorem witness_UnselectedMicroStepsDoNothing : (small 0).cnt ≠ 64 ∧ parseTurn (small 0).buf ≠ .dropAddr ∧
    parseTurn (small 0).buf ≠ .dropLen ∧ parseTurn (small 0).buf ≠ .dropCrc ∧
    parseTurn (small 0).buf ≠ .accept := by decide
/-- A state of each removing turn, and the full buffer. -/
theorem witness_ParseStopsOnlyWhenQuiescent : parseTurn [0x00, 0xC8] = .dropAddr ∧ parseTurn [0xC8, 0x3F] = .dropLen ∧
    parseTurn [0xEE, 0x03, 0x31, 0x12, 0x71] = .dropCrc ∧ parseTurn [0xEE, 0x03, 0x31, 0x02, 0x71] = .accept ∧
    ({ small 0 with buf := List.replicate 64 0xEE } : State).cnt ≤ 64 := by decide
/-- A waiting state with 63 bytes, a byte issued, and the step that takes it. -/
theorem witness_EveryStepKeepsTheInvariant :
    let s : State := { small 1000 with buf := 0xC8 :: 0x3E :: List.replicate 61 0x00, pending := [.hostop 0x1000000000000000000] }
    s.inv ∧ ∃ t, step s = .next t :=
  ⟨⟨⟨by decide, fun _ => by decide⟩, by decide⟩, _, rfl⟩
theorem witness_RxByteAddsAtMostTwentyFiveEvents :
    ({ small 0 with buf := List.replicate 63 0xEE } : State).cnt ≤ 63 := by decide
/-- No hypothesis to meet: one byte of noise before `EE 03 31 02 71` costs one discard, the frame 2 + 3 bytes. -/
theorem witness_BytesAreConsumedFromTheFrontInOrder :
    let t := after (.rxByte 0x71 9) { small 0 with buf := [0x55, 0xEE, 0x03, 0x31, 0x02] }
    discardsIn t.trace = 1 ∧ bytesOfFrames (framesOf t.events) = 5 ∧ t.buf = [] := by decide
theorem witness_FedFrameIsAcceptedAndDelivered : (live 7).buf = [] ∧ bindFrame.valid = true := by decide
/-- The first and the last place to cut. -/
theorem witness_FrameSplitAnywhereIsEmittedOnce : (live 7).buf = [] ∧ bindFrame.valid = true ∧
    0 < bindFrame.wire.length ∧ 4 < bindFrame.wire.length := by decide
set_option maxRecDepth 20000 in
theorem witness_BackToBackFramesComeOutInOrder : (live 7).buf = [] ∧ ∀ f ∈ [bindFrame, longFrame], f.valid = true := by
  decide
set_option maxRecDepth 20000 in
theorem witness_NoiseByteBetweenFramesIsDropped :
    (live 7).buf = [] ∧ bindFrame.valid = true ∧ longFrame.valid = true := by decide
/-- The last bit of the crc byte. -/
theorem witness_CorruptedFrameIsNotEmitted :
    (live 7).buf = [] ∧ bindFrame.valid = true ∧ 2 < bindFrame.length.toNat ∧ 7 < 8 := by decide
theorem witness_IsConnectedComparesTheModularDifference : (small 1000).linkUp = false ∧
    (live 5000).linkUp = true ∧ (live 5000).lastRx = 5000 ∧ (live 5000).cfg.connectionTimeout = 1000 := by decide
theorem witness_TimecheckIsTheEdgeDetector :
    ((live 5000).linkUp = true ∧ (live 5000).isConnected 6000 = false) ∧
    (small 1000).linkUp = false ∧ (live 5000).isConnected 5999 = true := by decide
theorem witness_PollReportsAndDetectsTheEdge : (small 1000).linkUp = false ∧
    (live 5000).linkUp = true ∧ (live 5000).lastRx = 5000 ∧ (live 5000).cfg.connectionTimeout = 1000 := by decide
/-- The smallest and the largest timeouts of the clauses. -/
theorem witness_TimeoutBoundaryFiresOnce :
    (∃ s : State, s.linkUp = true ∧ s.cfg.connectionTimeout ≠ 0 ∧ s.cfg.connectionTimeout = 1) ∧
    (∃ s : State, s.linkUp = true ∧ s.cfg.connectionTimeout.toNat + 1 < 2 ^ 64 ∧
      s.cfg.connectionTimeout = 18446744073709551614) ∧ (small 1000).linkUp = false :=
  ⟨⟨{ small 1 with linkUp := true }, by decide⟩, ⟨{ small 18446744073709551614 with linkUp := true }, by decide⟩,
   by decide⟩
theorem witness_DegenerateTimeouts : (small 0).cfg.connectionTimeout = 0 ∧
    ({ small 1 with linkUp := true } : State).cfg.connectionTimeout = 1 ∧
    ({ small 1 with linkUp := true } : State).linkUp = true ∧
    framesOf (after (.rxByte 0x71 9) { small 0 with buf := [0xEE, 0x03, 0x31, 0x02] }).events ≠ [] ∧
    framesOf (after (.rxByte 0x55 9) { small 0 with linkUp := true }).events = [] := by decide
/-- A run that loses the link: POLL after the timeout, no RESET among its operations. -/
theorem witness_OneDisconnectPerLoss : (∀ i ∈ [Instr.poll 6000], i.format ≠ .micro) ∧ .reset ∉ [Instr.poll 6000] ∧
    (live 5000).linkUp = true ∧ ∃ t, runAll [.poll 6000] (live 5000) = .next t ∧ t.linkUp = false :=
  ⟨by decide, by decide, by decide, _, rfl, by decide⟩
/-- A byte that completes a frame, and one that completes nothing. -/
theorem witness_LinkFollowsAcceptedFrames :
    framesOf (after (.rxByte 0x71 9) { small 0 with buf := [0xEE, 0x03, 0x31, 0x02] }).events ≠ [] ∧
    framesOf (after (.rxByte 0x55 9) (small 0)).events = [] := by decide
theorem witness_ChannelSetRoundTrip : (live 7).buf = [] ∧ ((0xC8 : Byte) = 0xEE ∨ (0xC8 : Byte) = 0xEA ∨ (0xC8 : Byte) = 0xC8) := by
  decide
theorem witness_CustomerCommandRowsNotifyTheirCommand : (small 0).cfg.rcType ≠ 0x31 := by decide
theorem witness_ReceivedRowIsTheDecodersAnswer :
    (small 0).cfg.wf = true ∧ Instr.wf (small 0).cfg.rcType (.ccEnterBind 0xEE 0x03 [] 0x71) = true ∧
    rxFrameOf (small 0).cfg.rcType (.ccEnterBind 0xEE 0x03 [] 0x71) = some bindFrame := by decide
/-- The boundary codes 0x00, 0x09 and 0xFF. -/
theorem witness_EncodeRefusesUnlistedCodes :
    ((0x00 : Byte) = 0x00 ∨ 0x09 ≤ (0x00 : Byte).toNat) ∧ 0x09 ≤ (0x09 : Byte).toNat ∧ 0x09 ≤ (0xFF : Byte).toNat := by decide
theorem witness_EncodedFrameLoopsBack : (small 0).buf = [] ∧ (small 0).cfg.rcType ≠ 0x31 := by decide
/-- NOP is none of the instructions that write an element, so it meets the premises of every clause. -/
theorem witness_OnlyTheNamedInstructionsWrite : exec .nop (live 7) = .next (live 7) ∧ Instr.nop ≠ .reset ∧
    (∀ v, Instr.nop ≠ .setUart v) ∧ (∀ b now, Instr.nop ≠ .rxByte b now) ∧ (∀ bs now, Instr.nop ≠ .feed bs now) ∧
    (∀ now, Instr.nop ≠ .noteFrame now) ∧ (∀ now, Instr.nop ≠ .poll now) ∧ (∀ now, Instr.nop ≠ .timecheck now) ∧
    (∀ b, Instr.nop ≠ .append b) ∧ (∀ now, Instr.nop ≠ .isConnected now) ∧ (∀ acc b, Instr.nop ≠ .crc8Step acc b) ∧
    (∀ m, Instr.nop ≠ .crc8Compute m) ∧ ∀ m e, Instr.nop ≠ .crc8Verify m e := by
  refine ⟨rfl, ?_⟩
  simp
/-- Two states that differ in what the statement says is not read. -/
theorem witness_RecordsAndUartFlagAreNeverRead :
    let s : State := { live 7 with uartConnected := true, events := [.notifyDisconnect], trace := [.overflow] }
    s ≠ live 7 ∧ s.agrees (live 7) ∧ s.lastRx = (live 7).lastRx := by
  refine ⟨by decide, ⟨rfl, rfl, rfl, fun _ => rfl, rfl⟩, rfl⟩
/-- The link down: the two `last_rx` differ, and both states take the same RX_BYTE. -/
theorem witness_RecordsAndUartFlagAreNeverRead_linkDown :
    let q : List Issue := [.hostop (hostWord 1 0xEE 5)]
    let s1 : State := { small 1000 with pending := q }
    let s2 : State := { small 1000 with lastRx := 7, pending := q }
    s1.lastRx ≠ s2.lastRx ∧ s1.agrees s2 ∧ s1.pending = s2.pending ∧ ∃ t, step s1 = .next t :=
  ⟨by decide, ⟨rfl, rfl, rfl, fun h => absurd h (by decide), rfl⟩, rfl, _, rfl⟩

end Sys2Proof.Tests
end

section
/-! The step and its instructions, each said once: what a step does (45_engine_ops.md R130), that decoding keeps the format
(30_encoding.md R61), and the few kinds of effect to which `exec`'s 43 rows come down. -/

namespace Sys2Proof.Machine

/-! ### Fields the composite operations leave -/

section Fields
variable (s : State)

theorem State.encode_of_command {c : Byte} {cmd : CustomerCommand} (h : commandOfCode c = some cmd) :
    s.encode c = s.transmit cmd := by simp [State.encode, h]

theorem State.encode_of_unlisted {c : Byte} (h : commandOfCode c = none) :
    s.encode c = s.raise (.encodeRefused c) := by simp [State.encode, h]

@[simp] theorem State.encode_buf (c : Byte) : (s.encode c).buf = s.buf := by
  unfold State.encode; split <;> rfl

@[simp] theorem State.encode_pending (c : Byte) : (s.encode c).pending = s.pending := by
  unfold State.encode; split <;> rfl

@[simp] theorem State.poll_buf (now : Timestamp) : (s.poll now).buf = s.buf := by simp [State.poll]

@[simp] theorem State.poll_pending (now : Timestamp) : (s.poll now).pending = s.pending := by simp [State.poll]

@[simp] theorem State.feed_pending (bytes : List Byte) (now : Timestamp) : (s.feed bytes now).pending = s.pending :=
  s.feed_keeps State.pending now (fun s b => s.rxByte_pending b now) bytes

/-- After TIMECHECK the link bit is IS_CONNECTED (R113). -/
@[simp] theorem State.timecheck_linkUp (now : Timestamp) : (s.timecheck now).linkUp = s.isConnected now := by
  unfold State.timecheck State.isConnected linkExpired linkAlive
  cases hl : s.linkUp <;> cases hu : (elapsed s.lastRx now).ult s.cfg.connectionTimeout <;> simp [hl]

end Fields

/-! ### The kinds of effect -/

/-- The state function that an instruction is, by kind: rows that deliver a decoder's answer, transmit a command, return a CRC
or discard a byte share one. `exec_effect` ties it to `exec`. -/
inductive Effect : Instr → (State → State) → Prop where
  | idle (i : Instr) : Effect i id
  | rxByte (b : Byte) (now : Timestamp) : Effect (.rxByte b now) fun s => s.rxByte b now
  | feed (bytes : List Byte) (now : Timestamp) : Effect (.feed bytes now) fun s => s.feed bytes now
  | poll (now : Timestamp) : Effect (.poll now) fun s => s.poll now
  | setUart (v : Bool) : Effect (.setUart v) fun s => { s with uartConnected := v }
  | encode (c : Byte) : Effect (.encode c) fun s => s.encode c
  | reset : Effect .reset State.resetEngine
  | append (b : Byte) : Effect (.append b) fun s => s.append b
  | discardWhere {i : Instr} (hi : i ∈ [.dropOvf, .dropAddr, .dropLen, .dropCrc]) (p : List Byte → Prop)
      [DecidablePred p] (c : List Byte → Cause) : Effect i fun s => if p s.buf then s.discard (c s.buf) else s
  | accept : Effect .accept fun s => s.whenTurn .accept s.accept
  | noteFrame (now : Timestamp) : Effect (.noteFrame now) fun s => s.noteFrame now
  | timecheck (now : Timestamp) : Effect (.timecheck now) fun s => s.timecheck now
  | isConnected (now : Timestamp) : Effect (.isConnected now) fun s => s.respond (.connected (s.isConnected now))
  | crc {i : Instr} (hi : i.format = .func) (r : Result) : Effect i fun s => s.respond r
  | deliver {i : Instr} (hi : i.format = .rxframe) (d : Except Cause DecodedEvent) : Effect i fun s => s.deliver d
  | transmit {i : Instr} (hi : i.format = .txframe) (cmd : CustomerCommand) : Effect i fun s => s.transmit cmd

/-- Every instruction has one of these effects, in every state (R145): it answers a next state. -/
theorem exec_effect (i : Instr) : ∃ f, Effect i f ∧ ∀ s, exec i s = .next (f s) :=
  match i with
  | .nop | .reserved6 | .reserved7 => ⟨_, .idle _, fun _ => rfl⟩
  | .waitHdr | .waitBody => ⟨_, .idle _, fun _ => congrArg _ (ite_self _)⟩
  | .rxByte b now => ⟨_, .rxByte b now, fun _ => rfl⟩
  | .feed bytes now => ⟨_, .feed bytes now, fun _ => rfl⟩
  | .poll now => ⟨_, .poll now, fun _ => rfl⟩
  | .setUart v => ⟨_, .setUart v, fun _ => rfl⟩
  | .encode c => ⟨_, .encode c, fun _ => rfl⟩
  | .reset => ⟨_, .reset, fun _ => rfl⟩
  | .append b => ⟨_, .append b, fun _ => rfl⟩
  | .dropOvf => ⟨_, .discardWhere (by decide) (·.length = cap) (fun _ => .overflow), fun _ => rfl⟩
  | .dropAddr =>
    ⟨_, .discardWhere (by decide) (parseTurn · = .dropAddr) (fun buf => .badAddress (cell buf 0)), fun _ => rfl⟩
  | .dropLen =>
    ⟨_, .discardWhere (by decide) (parseTurn · = .dropLen) (fun buf => .badLength (cell buf 1)), fun _ => rfl⟩
  | .dropCrc =>
    ⟨_, .discardWhere (by decide) (parseTurn · = .dropCrc) (fun buf => .badCrc (candidateCrc buf) (frameAt buf).crc),
      fun _ => rfl⟩
  | .accept => ⟨_, .accept, fun _ => rfl⟩
  | .noteFrame now => ⟨_, .noteFrame now, fun _ => rfl⟩
  | .timecheck now => ⟨_, .timecheck now, fun _ => rfl⟩
  | .isConnected now => ⟨_, .isConnected now, fun _ => rfl⟩
  | .crc8Step _ _ | .crc8Compute _ | .crc8Verify _ _ => ⟨_, .crc rfl _, fun _ => rfl⟩
  | .rcChannels _ _ _ | .rcBadLen _ _ _ _ | .ccUnknown _ _ _ _ _ | .otherType _ _ _ _ _ | .ccEnterWifi _ _ _ _
  | .ccEnterBind _ _ _ _ | .ccReceiveData _ _ _ _ | .ccSetStatus _ _ _ _ | .ccReconnect _ _ _ _
  | .ccDisconnect _ _ _ _ | .ccQueryBinding _ _ _ _ | .ccQueryUartLinked _ _ _ _ =>
    ⟨_, .deliver rfl _, fun _ => rfl⟩
  | .txEnterWifi | .txEnterBind | .txReceiveData | .txSetStatus | .txReconnect | .txDisconnect | .txQueryBinding
  | .txQueryUartLinked => ⟨_, .transmit rfl _, fun _ => rfl⟩

/-- No instruction touches what the host issues next (R132). -/
theorem Effect.pending {i : Instr} {f : State → State} (hf : Effect i f) (s : State) : (f s).pending = s.pending := by
  cases hf with
  | discardWhere | accept => dsimp only [State.whenTurn]; split <;> rfl
  | idle | setUart => rfl
  | _ => simp

/-! ### The step -/

theorem step_of_pending_nil {s : State} (h : s.pending = []) : step s = .next s := by
  simp [step, State.fetch, h]

theorem step_of_decode_ok {s : State} {q : Issue} {rest : List Issue} {i : Instr} (h : s.pending = q :: rest)
    (hd : decode s.cfg.rcType q = .ok i) : step s = exec i { s with pending := rest } := by
  simp [step, State.fetch, h, hd]

theorem step_of_decode_error {s : State} {q : Issue} {rest : List Issue} {e : DecodeError} (h : s.pending = q :: rest)
    (hd : decode s.cfg.rcType q = .error e) : step s = .refused (.undecodable e) := by
  simp [step, State.fetch, h, hd]

/-- A step that answers a next state had nothing to take, or took an operation that decodes and ran it (R130, R173). -/
theorem step_cases {s t : State} (h : step s = .next t) :
    (s.pending = [] ∧ t = s) ∨ ∃ q rest i f, s.pending = q :: rest ∧ decode s.cfg.rcType q = .ok i ∧
      Effect i f ∧ (∀ u, exec i u = .next (f u)) ∧ t = f { s with pending := rest } := by
  rcases hp : s.pending with _ | ⟨q, rest⟩
  · rw [step_of_pending_nil hp] at h
    exact .inl ⟨rfl, by injection h with h; exact h.symm⟩
  · rcases hd : decode s.cfg.rcType q with e | i
    · rw [step_of_decode_error hp hd] at h
      cases h
    · obtain ⟨f, hf, he⟩ := exec_effect i
      rw [step_of_decode_ok hp hd, he] at h
      injection h with h
      exact .inr ⟨q, rest, i, f, rfl, hd, hf, he, h.symm⟩

/-! ### Decoding keeps the format -/

theorem decodeHostop_format (h : BitVec 75) : (decodeHostop h).format = .hostop := by
  unfold decodeHostop
  split_ifs <;> rfl

theorem rxRow_format (rcType a n t p0 : Byte) (rest : List Byte) (k : Byte) :
    (rxRow rcType a n t p0 rest k).format = .rxframe := by
  unfold rxRow
  split_ifs
  · rfl
  · rfl
  · split <;> rfl
  · rfl

theorem decodeRx_format {rcType : Byte} {bytes : List Byte} {i : Instr} (h : decodeRx rcType bytes = .ok i) :
    i.format = .rxframe := by
  unfold decodeRx at h
  split at h
  · injection h with h
    exact h ▸ rxRow_format ..
  · cases h

theorem decodeTx_format {bytes : List Byte} {i : Instr} (h : decodeTx bytes = .ok i) : i.format = .txframe := by
  unfold decodeTx at h
  split_ifs at h <;> cases h <;> rfl

/-- What stands at an input decodes to a row of the input's own format (R61). -/
theorem decode_format {rcType : Byte} {q : Issue} {i : Instr} (h : decode rcType q = .ok i) : i.format = q.format := by
  cases q with
  | hostop w => cases h; exact decodeHostop_format w
  | rst => cases h; rfl
  | rxframe bytes => exact decodeRx_format h
  | txframe bytes => exact decodeTx_format h
  | line j => cases h; rfl

end Sys2Proof.Machine
end

section
/-! The invariant of 10_state.md R18: `PARSE()` stops only in a quiescent buffer, and nothing that a host issues leaves one
otherwise. -/

namespace Sys2Proof.Machine

/-- R18 speaks of the buffer alone. -/
theorem State.quiescent_of_buf_eq {s t : State} (hb : t.buf = s.buf) (h : s.quiescent) : t.quiescent := by
  simpa only [State.quiescent, State.cnt, hb] using h

theorem State.quiescent_of_buf_nil {s : State} (hb : s.buf = []) : s.quiescent := by
  simp [State.quiescent, State.cnt, hb]

/-- Where the parse loop waits, (I-a) and (I-b) hold: fewer than two bytes, or a legal header whose frame, of at most 64 bytes,
is not complete (R80, R85). -/
theorem State.quiescent_of_waiting {s : State} (h : parseTurn s.buf = .waitHdr ∨ parseTurn s.buf = .waitBody) :
    s.quiescent := by
  rcases parseTurn_cases s.buf with c | c | c | c | c | c
  · obtain ⟨-, hlt⟩ := c
    exact ⟨by unfold State.cnt; omega, fun h2 => by unfold State.cnt at h2; omega⟩
  case inr.inr.inr.inl =>
    obtain ⟨-, -, haddr, hlen, hlt⟩ := c
    obtain ⟨h3, h62⟩ := (lengthOk_iff _).1 hlen
    have hcnt : s.cnt < 2 + (cell s.buf 1).toNat := hlt
    exact ⟨by omega, fun _ => ⟨haddr, h3, h62, hcnt⟩⟩
  all_goals simp [c.1] at h

/-- `PARSE()` stops only at WAIT_HDR or WAIT_BODY (R84). -/
theorem State.parse_waits (s : State) (now : Timestamp) :
    parseTurn (s.parse now).buf = .waitHdr ∨ parseTurn (s.parse now).buf = .waitBody :=
  State.parse_rule (Q := fun _ t => parseTurn t.buf = .waitHdr ∨ parseTurn t.buf = .waitBody) (fun _ h => h)
    (fun _ _ _ h => h) (fun _ _ _ h => h) (fun _ _ _ h => h) (fun _ _ _ h => h) s

/-- RX_BYTE ends in a quiescent buffer, from any state. -/
theorem State.rxByte_quiescent (s : State) (b : Byte) (now : Timestamp) : (s.rxByte b now).quiescent :=
  State.quiescent_of_waiting (State.parse_waits _ now)

theorem State.feed_quiescent {s : State} (h : s.quiescent) (bytes : List Byte) (now : Timestamp) :
    (s.feed bytes now).quiescent := by
  induction bytes generalizing s with
  | nil => exact h
  | cons b bytes ih => exact ih (s.rxByte_quiescent b now)

/-- An instruction that is no micro-step keeps R18: RX_BYTE and FEED end where the loop waits, RESET empties the buffer, and the
others leave it. -/
theorem Effect.keeps_quiescent {i : Instr} {f : State → State} (hf : Effect i f) (hi : i.format ≠ .micro) {s : State}
    (h : s.quiescent) : (f s).quiescent := by
  cases hf with
  | rxByte b now => exact s.rxByte_quiescent b now
  | feed bytes now => exact State.feed_quiescent h bytes now
  | reset => exact State.quiescent_of_buf_nil rfl
  | append | accept | noteFrame | timecheck | isConnected => exact absurd rfl hi
  | discardWhere hdrop =>
    have hmicro : ∀ j ∈ [Instr.dropOvf, .dropAddr, .dropLen, .dropCrc], j.format = .micro := by decide
    exact absurd (hmicro i hdrop) hi
  | idle | setUart => exact h
  | poll | encode | crc | deliver | transmit => exact State.quiescent_of_buf_eq (by simp) h

/-- Settles O28: an issued operation decodes to no micro-step, and every other instruction keeps R18 and what is pending. -/
theorem everyStepKeepsTheInvariant : Obligations.EveryStepKeepsTheInvariant := by
  intro s t ⟨hq, hhost⟩ hstep
  rcases step_cases hstep with ⟨-, rfl⟩ | ⟨q, rest, i, f, hp, hd, hf, -, rfl⟩
  · exact ⟨hq, hhost⟩
  · rw [hp] at hhost
    have hi : i.format ≠ .micro := by
      simpa [Issue.micro, decode_format hd] using hhost q List.mem_cons_self
    refine ⟨hf.keeps_quiescent hi hq, ?_⟩
    rw [hf.pending]
    exact fun r hr => hhost r (List.mem_cons_of_mem q hr)

/-- Settles O29: the reset state has an empty buffer and nothing issued. -/
theorem resetStateHasTheInvariant : Obligations.ResetStateHasTheInvariant :=
  ⟨State.quiescent_of_buf_nil rfl, fun _ hq => absurd hq List.not_mem_nil⟩

/-- Settles O1, by evaluation of the reset state. -/
theorem resetStateHoldsTheResetValues : Obligations.ResetStateHoldsTheResetValues :=
  ⟨rfl, rfl, rfl, fun _ => rfl, rfl, rfl, rfl⟩

/-- Settles O46: TIMECHECK and APPEND add no frame and leave the link at IS_CONNECTED(now) and `last_rx` alone; `PARSE()` writes
them only with a frame. -/
theorem linkFollowsAcceptedFrames : Obligations.LinkFollowsAcceptedFrames := by
  intro b now s
  obtain ⟨evs1, hev1, hfr1⟩ := s.timecheck_adds now
  obtain ⟨evs2, cs, hparse⟩ := State.parse_adds now ((s.timecheck now).append b)
  have hframes : framesOf (evs1 ++ evs2) = framesOf evs2 := by simp [hfr1]
  refine ⟨s.rxByte b now, evs1 ++ evs2, rfl, ?_, ?_, ?_⟩
  · rw [State.rxByte, hparse.events, State.append_events, hev1, List.append_assoc]
  · rw [hframes]
    exact hparse.link
  · rw [hframes]
    intro hnone
    simpa [State.rxByte] using hparse.noLink hnone

end Sys2Proof.Machine
end

section
/-! What the engine does not read (10_state.md R14 to R16, R20, 43_link_tracker.md R118): two states that agree on the engine's
own part are answered alike by every operation, shown for each operation of the state and carried through the parse loop. -/

namespace Sys2Proof.Machine

/-- `t` holds the records of `s` with these events, results and causes added. -/
def State.Adds (s t : State) (evs : List Event) (rs : List Result) (cs : List Cause) : Prop :=
  t.events = s.events ++ evs ∧ t.results = s.results ++ rs ∧ t.trace = s.trace ++ cs

theorem State.Adds.refl (s : State) : s.Adds s [] [] [] := by simp [State.Adds]

theorem State.Adds.trans {s t u : State} {evs evs' : List Event} {rs rs' : List Result} {cs cs' : List Cause}
    (h : s.Adds t evs rs cs) (h' : t.Adds u evs' rs' cs') : s.Adds u (evs ++ evs') (rs ++ rs') (cs ++ cs') := by
  obtain ⟨he, hr, hc⟩ := h
  obtain ⟨he', hr', hc'⟩ := h'
  simp [State.Adds, he, hr, hc, he', hr', hc']

/-- From `s1` and `s2` to `t1` and `t2` the same is added to the records, and the results agree. -/
def AnsweredAlike (s1 s2 t1 t2 : State) : Prop :=
  t1.agrees t2 ∧ (s1.lastRx = s2.lastRx → t1.lastRx = t2.lastRx) ∧
    ∃ evs rs cs, s1.Adds t1 evs rs cs ∧ s2.Adds t2 evs rs cs

theorem AnsweredAlike.trans {s1 s2 t1 t2 u1 u2 : State} (h : AnsweredAlike s1 s2 t1 t2)
    (h' : AnsweredAlike t1 t2 u1 u2) : AnsweredAlike s1 s2 u1 u2 := by
  obtain ⟨-, hrx, _, _, _, ha1, ha2⟩ := h
  obtain ⟨hag, hrx', _, _, _, ha1', ha2'⟩ := h'
  exact ⟨hag, hrx' ∘ hrx, _, _, _, ha1.trans ha1', ha2.trans ha2'⟩

/-- A state function that reads no more than State.agrees speaks of. -/
def ReadsOnlyAgreed (f : State → State) : Prop := ∀ s1 s2 : State, s1.agrees s2 → AnsweredAlike s1 s2 (f s1) (f s2)

/-! ### How such functions combine -/

theorem ReadsOnlyAgreed.id : ReadsOnlyAgreed id :=
  fun s1 s2 h => ⟨h, fun hrx => hrx, [], [], [], .refl s1, .refl s2⟩

theorem ReadsOnlyAgreed.comp {f g : State → State} (hg : ReadsOnlyAgreed g) (hf : ReadsOnlyAgreed f) :
    ReadsOnlyAgreed fun s => g (f s) :=
  fun s1 s2 h => (hf s1 s2 h).trans (hg _ _ (hf s1 s2 h).1)

/-- A parameter may be read off the agreed part. -/
theorem ReadsOnlyAgreed.param {α : Type} {f : α → State → State} (g : State → α)
    (hg : ∀ s1 s2 : State, s1.agrees s2 → g s1 = g s2) (hf : ∀ a, ReadsOnlyAgreed (f a)) :
    ReadsOnlyAgreed fun s => f (g s) s := by
  intro s1 s2 h
  simpa only [← hg s1 s2 h] using hf (g s1) s1 s2 h

theorem State.agrees.cfg_eq {s1 s2 : State} (h : s1.agrees s2) : s1.cfg = s2.cfg := h.1

theorem State.agrees.buf_eq {s1 s2 : State} (h : s1.agrees s2) : s1.buf = s2.buf := h.2.1

theorem State.agrees.linkUp_eq {s1 s2 : State} (h : s1.agrees s2) : s1.linkUp = s2.linkUp := h.2.2.1

/-- A choice made by the buffer. -/
theorem ReadsOnlyAgreed.iteBuf {f g : State → State} (p : List Byte → Prop) [DecidablePred p] (hf : ReadsOnlyAgreed f)
    (hg : ReadsOnlyAgreed g) : ReadsOnlyAgreed fun s => if p s.buf then f s else g s := by
  intro s1 s2 h
  dsimp only
  rw [← h.buf_eq]
  split
  · exact hf s1 s2 h
  · exact hg s1 s2 h

/-! ### The operations of the state -/

/-- An operation that only adds fixed records. -/
theorem ReadsOnlyAgreed.of_records {f : State → State} (evs : List Event) (rs : List Result) (cs : List Cause)
    (hf : ∀ s, f s = { s with events := s.events ++ evs, results := s.results ++ rs, trace := s.trace ++ cs }) :
    ReadsOnlyAgreed f := by
  intro s1 s2 h
  rw [hf, hf]
  exact ⟨h, fun hrx => hrx, evs, rs, cs, ⟨rfl, rfl, rfl⟩, ⟨rfl, rfl, rfl⟩⟩

theorem ReadsOnlyAgreed.emit (e : Event) : ReadsOnlyAgreed fun s => s.emit e :=
  .of_records [e] [] [] fun s => by simp [State.emit]

theorem ReadsOnlyAgreed.raise (c : Cause) : ReadsOnlyAgreed fun s => s.raise c :=
  .of_records [] [] [c] fun s => by simp [State.raise]

theorem ReadsOnlyAgreed.respond (r : Result) : ReadsOnlyAgreed fun s => s.respond r :=
  .of_records [] [r] [] fun s => by simp [State.respond]

theorem ReadsOnlyAgreed.transmit (cmd : CustomerCommand) : ReadsOnlyAgreed fun s => s.transmit cmd :=
  .of_records ((encodeCommand cmd).map .txByte) [] [] fun s => by simp [State.transmit]

theorem ReadsOnlyAgreed.encode (c : Byte) : ReadsOnlyAgreed fun s => s.encode c := by
  cases hc : commandOfCode c with
  | some cmd => simpa only [State.encode_of_command _ hc] using ReadsOnlyAgreed.transmit cmd
  | none => simpa only [State.encode_of_unlisted _ hc] using ReadsOnlyAgreed.raise (.encodeRefused c)

theorem ReadsOnlyAgreed.deliver : ∀ d : Except Cause DecodedEvent, ReadsOnlyAgreed fun s => s.deliver d
  | .ok e => .emit e.event
  | .error c => .raise c

/-- A write of the buffer from the buffer. -/
theorem ReadsOnlyAgreed.setBuf (w : List Byte → List Byte) : ReadsOnlyAgreed fun s => { s with buf := w s.buf } := by
  intro s1 s2 ⟨hcfg, hbuf, hlink, hrx, hdraws⟩
  exact ⟨⟨hcfg, congrArg w hbuf, hlink, hrx, hdraws⟩, fun h => h, [], [], [], .refl s1, .refl s2⟩

theorem ReadsOnlyAgreed.discard (c : List Byte → Cause) : ReadsOnlyAgreed fun s => s.discard (c s.buf) :=
  (ReadsOnlyAgreed.setBuf (List.drop 1)).comp
    (.param (f := fun c s => s.raise c) (fun s => c s.buf) (fun _ _ h => congrArg c h.buf_eq) .raise)

theorem ReadsOnlyAgreed.append (b : Byte) : ReadsOnlyAgreed fun s => s.append b :=
  (ReadsOnlyAgreed.setBuf (· ++ [b])).comp (.iteBuf (·.length = cap) (.discard fun _ => .overflow) .id)

theorem ReadsOnlyAgreed.accept : ReadsOnlyAgreed State.accept :=
  (ReadsOnlyAgreed.setBuf fun buf => buf.drop (candidateSize buf)).comp
    (.param (f := fun e s => s.emit e) (fun s => .evFrame (frameAt s.buf))
      (fun _ _ h => congrArg (fun buf => Event.evFrame (frameAt buf)) h.buf_eq) .emit)

theorem ReadsOnlyAgreed.setUart (v : Bool) : ReadsOnlyAgreed fun s => { s with uartConnected := v } :=
  fun s1 s2 h => ⟨h, fun hrx => hrx, [], [], [], .refl s1, .refl s2⟩

theorem ReadsOnlyAgreed.noteFrame (now : Timestamp) : ReadsOnlyAgreed fun s => s.noteFrame now := by
  intro s1 s2 ⟨hcfg, hbuf, _, _, hdraws⟩
  exact ⟨⟨hcfg, hbuf, rfl, fun _ => rfl, hdraws⟩, fun _ => rfl, [], [], [], .refl s1, .refl s2⟩

/-- RESET draws the same free value where the counters agree (assumption 3). -/
theorem ReadsOnlyAgreed.resetEngine : ReadsOnlyAgreed State.resetEngine := by
  intro s1 s2 ⟨hcfg, _, _, _, hdraws⟩
  have hrx : s1.resetEngine.lastRx = s2.resetEngine.lastRx := congrArg Config.unspecifiedTime hdraws
  exact ⟨⟨hcfg, rfl, rfl, fun _ => hrx, congrArg (· + 1) hdraws⟩, fun _ => hrx, [], [], [], .refl s1, .refl s2⟩

/-- IS_CONNECTED reads `last_rx` only while the link bit is 1 (R112, R118). -/
theorem State.agrees.isConnected {s1 s2 : State} (h : s1.agrees s2) (now : Timestamp) :
    s1.isConnected now = s2.isConnected now := by
  obtain ⟨hcfg, -, hlink, hrx, -⟩ := h
  unfold State.isConnected linkAlive
  rw [← hcfg, ← hlink]
  cases hup : s1.linkUp with
  | false => rfl
  | true => rw [hrx hup]

theorem ReadsOnlyAgreed.isConnected (now : Timestamp) :
    ReadsOnlyAgreed fun s => s.respond (.connected (s.isConnected now)) :=
  .param (f := fun r s => s.respond r) (fun s => .connected (s.isConnected now))
    (fun _ _ h => congrArg Result.connected (h.isConnected now)) .respond

/-- TIMECHECK in terms of IS_CONNECTED (R113). -/
theorem State.timecheck_eq (s : State) (now : Timestamp) : s.timecheck now =
    if s.linkUp && !s.isConnected now then { s with linkUp := false, events := s.events ++ [.notifyDisconnect] } else s :=
  rfl

theorem ReadsOnlyAgreed.timecheck (now : Timestamp) : ReadsOnlyAgreed fun s => s.timecheck now := by
  intro s1 s2 h
  dsimp only
  rw [State.timecheck_eq, State.timecheck_eq, ← h.isConnected now, ← h.linkUp_eq]
  split
  · obtain ⟨hcfg, hbuf, -, -, hdraws⟩ := h
    exact ⟨⟨hcfg, hbuf, rfl, fun hup => Bool.noConfusion hup, hdraws⟩, fun hrx => hrx, [.notifyDisconnect], [], [],
      by simp [State.Adds], by simp [State.Adds]⟩
  · exact ReadsOnlyAgreed.id s1 s2 h

theorem ReadsOnlyAgreed.poll (now : Timestamp) : ReadsOnlyAgreed fun s => s.poll now :=
  (ReadsOnlyAgreed.isConnected now).comp (.timecheck now)

/-! ### The parse loop, RX_BYTE and FEED -/

theorem ReadsOnlyAgreed.takeFrame (now : Timestamp) : ReadsOnlyAgreed fun s => s.takeFrame now :=
  .param (f := fun d s => (s.accept.noteFrame now).deliver d) (fun s => decodeFrame s.cfg.rcType (frameAt s.buf))
    (fun _ _ h => by rw [h.cfg_eq, h.buf_eq])
    fun d => (ReadsOnlyAgreed.deliver d).comp ((ReadsOnlyAgreed.noteFrame now).comp .accept)

theorem ReadsOnlyAgreed.parseLoop (now : Timestamp) : ∀ n, ReadsOnlyAgreed (State.parseLoop now n)
  | 0 => .id
  | n + 1 => by
    intro s1 s2 h
    have loop := ReadsOnlyAgreed.parseLoop now n
    unfold State.parseLoop
    rw [← h.buf_eq]
    cases parseTurn s1.buf with
    | waitHdr | waitBody => exact ReadsOnlyAgreed.id s1 s2 h
    | dropAddr => exact loop.comp (.discard fun buf => .badAddress (cell buf 0)) s1 s2 h
    | dropLen => exact loop.comp (.discard fun buf => .badLength (cell buf 1)) s1 s2 h
    | dropCrc => exact loop.comp (.discard fun buf => .badCrc (candidateCrc buf) (frameAt buf).crc) s1 s2 h
    | accept => exact loop.comp (.takeFrame now) s1 s2 h

theorem ReadsOnlyAgreed.parse (now : Timestamp) : ReadsOnlyAgreed fun s => s.parse now :=
  .param (f := State.parseLoop now) (fun s => s.cnt + 1) (fun _ _ h => congrArg (·.length + 1) h.buf_eq) (.parseLoop now)

theorem ReadsOnlyAgreed.rxByte (b : Byte) (now : Timestamp) : ReadsOnlyAgreed fun s => s.rxByte b now :=
  (ReadsOnlyAgreed.parse now).comp ((ReadsOnlyAgreed.append b).comp (.timecheck now))

theorem ReadsOnlyAgreed.feed (now : Timestamp) : ∀ bytes : List Byte, ReadsOnlyAgreed fun s => s.feed bytes now
  | [] => .id
  | b :: bytes => (ReadsOnlyAgreed.feed now bytes).comp (.rxByte b now)

/-- Every instruction reads no more than State.agrees speaks of. -/
theorem Effect.readsOnlyAgreed {i : Instr} {f : State → State} (hf : Effect i f) : ReadsOnlyAgreed f := by
  cases hf with
  | idle => exact .id
  | rxByte b now => exact .rxByte b now
  | feed bytes now => exact .feed now bytes
  | poll now => exact .poll now
  | setUart v => exact .setUart v
  | encode c => exact .encode c
  | reset => exact .resetEngine
  | append b => exact .append b
  | discardWhere _ p c => exact .iteBuf p (.discard c) .id
  | accept => exact .iteBuf (parseTurn · = .accept) .accept .id
  | noteFrame now => exact .noteFrame now
  | timecheck now => exact .timecheck now
  | isConnected now => exact .isConnected now
  | crc _ r => exact .respond r
  | deliver _ d => exact .deliver d
  | transmit _ cmd => exact .transmit cmd

/-- Settles O58: both states are answered alike by the one effect of the instruction, and a step runs the same instruction in
both, since they have the same configuration and the same operation at the head of what is pending. -/
theorem recordsAndUartFlagAreNeverRead : Obligations.RecordsAndUartFlagAreNeverRead := by
  refine ⟨fun i s1 s2 h => ?_, fun s1 s2 t1 h hp hstep => ?_⟩
  · obtain ⟨f, hf, he⟩ := exec_effect i
    obtain ⟨hag, hrx, evs, rs, cs, ⟨hev1, hrs1, hcs1⟩, ⟨hev2, hrs2, hcs2⟩⟩ := hf.readsOnlyAgreed s1 s2 h
    exact ⟨f s1, f s2, evs, rs, cs, he s1, he s2, hag, hrx, hev1, hev2, hrs1, hrs2, hcs1, hcs2⟩
  · rcases step_cases hstep with ⟨hnil, rfl⟩ | ⟨q, rest, i, f, hcons, hd, hf, he, rfl⟩
    · exact ⟨s2, step_of_pending_nil (hp ▸ hnil), h, hp⟩
    · have htaken : State.agrees { s1 with pending := rest } { s2 with pending := rest } := h
      refine ⟨f { s2 with pending := rest }, ?_, (hf.readsOnlyAgreed _ _ htaken).1, ?_⟩
      · rw [step_of_decode_ok (hp ▸ hcons) (h.cfg_eq ▸ hd), he]
      · rw [hf.pending, hf.pending]

end Sys2Proof.Machine
end

section
/-! RX_BYTE's account of the bytes (20_memory.md R33, 41_reassembler.md R90 and R93, 60_exceptions.md R152): TIMECHECK leaves the
buffer, APPEND puts the new byte last, and `PARSE()` goes on removing where APPEND's discard stopped. -/

namespace Sys2Proof.Machine

/-- Settles O32: what APPEND discards and what `PARSE()` removes are two removals from the front of `buf ++ [b]`, one after the
other, each as long as its own discards and frames say. -/
theorem bytesAreConsumedFromTheFrontInOrder : Obligations.BytesAreConsumedFromTheFrontInOrder := by
  intro b now s
  obtain ⟨evsT, hevT, hframesT⟩ := s.timecheck_adds now
  obtain ⟨csA, hevA, htrA, hbufA, hcntA⟩ := (s.timecheck now).append_adds b
  obtain ⟨evsP, csP, hparse⟩ := State.parse_adds now ((s.timecheck now).append b)
  have hcntT : (s.timecheck now).cnt = s.cnt := congrArg List.length (s.timecheck_buf now)
  have htotal : discardsIn (csA ++ csP) + bytesOfFrames (framesOf (evsT ++ evsP)) =
      discardsIn csA + (discardsIn csP + bytesOfFrames (framesOf evsP)) := by
    simp [hframesT, Nat.add_assoc]
  refine ⟨s.rxByte b now, evsT ++ evsP, csA ++ csP, rfl, ?_, ?_, ?_, ?_⟩
  · rw [State.rxByte, hparse.events, hevA, hevT, List.append_assoc]
  · rw [State.rxByte, hparse.trace, htrA, State.timecheck_trace, List.append_assoc]
  · rw [htotal, State.rxByte, hparse.buf, hbufA, List.drop_drop, State.timecheck_buf]
  · rw [htotal, State.rxByte]
    have hcntP := hparse.cnt
    omega

end Sys2Proof.Machine
end

section
/-! The encodings (30_encoding.md R45, R56, R57, R61): the fields of an operation word, the rows of the decoder each said once,
and the table's masks byte by byte. -/

namespace Sys2Proof.Machine

/-! ### Operation words -/

section HostWord
variable (op : BitVec 3) (data : Byte) (now : Timestamp)

@[simp] theorem opField_hostWord : opField (hostWord op data now) = op := by
  rw [opField, hostWord, BitVec.extractLsb'_append_eq_of_le (by decide)]
  exact BitVec.extractLsb'_append_eq_left

@[simp] theorem dataField_hostWord : dataField (hostWord op data now) = data := by
  rw [dataField, hostWord, BitVec.extractLsb'_append_eq_of_le (by decide)]
  exact BitVec.extractLsb'_append_eq_right

@[simp] theorem nowField_hostWord : nowField (hostWord op data now) = now :=
  BitVec.extractLsb'_append_eq_right

end HostWord

section HostFields
variable (h : BitVec 75)

/-- The three fields cover all 75 bits (R57). -/
@[simp] theorem hostWord_fields : hostWord (opField h) (dataField h) (nowField h) = h := by
  have hhigh : opField h ++ dataField h = h.extractLsb' 64 11 :=
    BitVec.extractLsb'_append_extractLsb'_eq_extractLsb' (by decide)
  have hall : h.extractLsb' 64 11 ++ nowField h = h.extractLsb' 0 75 :=
    BitVec.extractLsb'_append_extractLsb'_eq_extractLsb' (by decide)
  rw [hostWord, hhigh, hall, BitVec.extractLsb'_eq_self]

variable {h}

theorem decodeHostop_nop (hop : opField h = 0) : decodeHostop h = .nop := by simp [decodeHostop, hop]

theorem decodeHostop_rxByte (hop : opField h = 1) : decodeHostop h = .rxByte (dataField h) (nowField h) := by
  simp [decodeHostop, hop]

theorem decodeHostop_poll (hop : opField h = 2) : decodeHostop h = .poll (nowField h) := by simp [decodeHostop, hop]

theorem decodeHostop_setUart (hop : opField h = 3) : decodeHostop h = .setUart ((dataField h).getLsbD 0) := by
  simp [decodeHostop, hop]

theorem decodeHostop_encode (hop : opField h = 4) : decodeHostop h = .encode (dataField h) := by
  simp [decodeHostop, hop]

theorem decodeHostop_reset (hop : opField h = 5) : decodeHostop h = .reset := by simp [decodeHostop, hop]

theorem decodeHostop_reserved6 (hop : opField h = 6) : decodeHostop h = .reserved6 := by simp [decodeHostop, hop]

theorem decodeHostop_reserved7 (hop : opField h = 7) : decodeHostop h = .reserved7 := by simp [decodeHostop, hop]

end HostFields

/-- The data byte that SET_UART is encoded with holds bit 0 of the one it was decoded from (R57). -/
theorem setUart_data (b : Byte) : (if b.getLsbD 0 then 1 else 0) = b &&& 1 := by
  rw [show b &&& 1 = _ from BitVec.and_one_eq_setWidth_ofBool_getLsbD]
  cases b.getLsbD 0 <;> rfl

/-! ### Received frames -/

/-- A wire code names a command exactly where it is that command's code (R53). -/
theorem commandOfCode_eq_some_iff {c : Byte} {cmd : CustomerCommand} : commandOfCode c = some cmd ↔ c = cmd.code := by
  constructor
  · intro hc
    unfold commandOfCode at hc
    split_ifs at hc <;> cases hc <;> assumption
  · rintro rfl
    cases cmd <;> rfl

/-- The unlisted codes are the codes of no command (R53, R101). -/
theorem commandOfCode_eq_none_iff {c : Byte} : commandOfCode c = none ↔ ∀ cmd : CustomerCommand, c ≠ cmd.code := by
  simp only [Option.eq_none_iff_forall_ne_some, ne_eq, commandOfCode_eq_some_iff]

section RxRow
variable {rcType a n t p0 : Byte} {rest : List Byte} {k : Byte}

theorem rxRow_rcChannels : rxRow rcType a rcLength rcType p0 rest k = .rcChannels a (p0 :: rest) k := by simp [rxRow]

theorem rxRow_rcBadLen (hn : n ≠ rcLength) : rxRow rcType a n rcType p0 rest k = .rcBadLen a n (p0 :: rest) k := by
  simp [rxRow, hn]

theorem rxRow_commandRow (hrc : rcType ≠ ccType) (cmd : CustomerCommand) :
    rxRow rcType a n ccType cmd.code rest k = commandRow cmd a n rest k := by
  simp only [rxRow, hrc.symm, if_false, if_true]
  cases cmd <;> rfl

theorem rxRow_ccUnknown (hrc : rcType ≠ ccType) (hc : commandOfCode p0 = none) :
    rxRow rcType a n ccType p0 rest k = .ccUnknown a n p0 rest k := by
  simp [rxRow, hrc.symm, hc]

theorem rxRow_otherType (hrc : t ≠ rcType) (hcc : t ≠ ccType) :
    rxRow rcType a n t p0 rest k = .otherType a n t (p0 :: rest) k := by
  simp [rxRow, hrc, hcc]

/-- The row read from the fields of a frame is the row that stands for the frame and is selected for it (R59, R61). -/
theorem rxRow_of_rxFrameOf {i : Instr} (hrc : rcType ≠ ccType) (hf : rxFrameOf rcType i = some ⟨a, n, t, p0 :: rest, k⟩)
    (hsel : i.rowSelected rcType = true) : rxRow rcType a n t p0 rest k = i := by
  cases i with
  | rcChannels => cases hf; exact rxRow_rcChannels
  | ccEnterWifi => cases hf; exact rxRow_commandRow hrc .enterWifi
  | ccEnterBind => cases hf; exact rxRow_commandRow hrc .enterBind
  | ccReceiveData => cases hf; exact rxRow_commandRow hrc .receiveData
  | ccSetStatus => cases hf; exact rxRow_commandRow hrc .setStatus
  | ccReconnect => cases hf; exact rxRow_commandRow hrc .reconnect
  | ccDisconnect => cases hf; exact rxRow_commandRow hrc .disconnect
  | ccQueryBinding => cases hf; exact rxRow_commandRow hrc .queryBinding
  | ccQueryUartLinked => cases hf; exact rxRow_commandRow hrc .queryUartLinked
  | rcBadLen => cases hf; exact rxRow_rcBadLen (bne_iff_ne.1 hsel)
  | ccUnknown => cases hf; exact rxRow_ccUnknown hrc (Option.isNone_iff_eq_none.1 hsel)
  | otherType =>
    cases hf
    obtain ⟨hne, hcc⟩ := Bool.and_eq_true_iff.1 hsel
    exact rxRow_otherType (bne_iff_ne.1 hne) (bne_iff_ne.1 hcc)
  | _ => cases hf

end RxRow

/-- The bytes of a frame with a payload decode to the row of its fields, the last byte being the crc (R45). -/
theorem decodeRx_wire (rcType a n t p0 : Byte) (rest : List Byte) (k : Byte) :
    decodeRx rcType (Frame.wire ⟨a, n, t, p0 :: rest, k⟩) = .ok (rxRow rcType a n t p0 rest k) := by
  have hcrc : decodeRx rcType (a :: n :: t :: p0 :: (rest ++ [k])) =
      .ok (rxRow rcType a n t p0 (rest ++ [k]).dropLast ((rest ++ [k]).getLastD 0)) := by
    cases rest <;> rfl
  rwa [List.dropLast_concat, List.getLastD_concat] at hcrc

/-- A validated frame has a payload byte (R48). -/
theorem Frame.payload_ne_nil {f : Frame} (hf : f.valid = true) : f.payload ≠ [] := by
  obtain ⟨-, ⟨hmin, -⟩, hlen, -⟩ := f.valid_iff.1 hf
  intro hnil
  rw [hnil, List.length_nil] at hlen
  omega

/-- A received-frame row stands for a frame and is encoded as the frame's bytes (R45, R61). -/
theorem encode_eq_wire {i : Instr} (rcType : Byte) (hi : i.format = .rxframe) :
    ∃ f, rxFrameOf rcType i = some f ∧ encode rcType i = .rxframe f.wire := by
  cases i with
  | rcChannels | ccEnterWifi | ccEnterBind | ccReceiveData | ccSetStatus | ccReconnect | ccDisconnect | ccQueryBinding
  | ccQueryUartLinked | rcBadLen | ccUnknown | otherType => exact ⟨_, rfl, rfl⟩
  | _ => cases hi

/-! ### Decoding what was encoded, format by format -/

section DecodeEncode
variable {i : Instr} (rcType : Byte)

theorem decode_encode_of_hostop (hi : i.format = .hostop) : decode rcType (encode rcType i) = .ok i := by
  cases i with
  | nop => exact congrArg _ (decodeHostop_nop (opField_hostWord ..))
  | rxByte b now => simp [encode, decode, decodeHostop_rxByte]
  | poll now => simp [encode, decode, decodeHostop_poll]
  | setUart v => cases v <;> simp [encode, decode, decodeHostop_setUart]
  | encode c => simp [encode, decode, decodeHostop_encode]
  | reset => exact congrArg _ (decodeHostop_reset (opField_hostWord ..))
  | reserved6 => exact congrArg _ (decodeHostop_reserved6 (opField_hostWord ..))
  | reserved7 => exact congrArg _ (decodeHostop_reserved7 (opField_hostWord ..))
  | _ => cases hi

/-- The rows with no bit pattern stand as typed lines (R57, R61). -/
theorem encode_eq_line (hi : i.format = .pseudo ∨ i.format = .micro ∨ i.format = .func) : encode rcType i = .line i := by
  cases i with
  | feed | append | dropOvf | waitHdr | dropAddr | dropLen | waitBody | accept | dropCrc | noteFrame | isConnected
  | timecheck | crc8Step | crc8Compute | crc8Verify => rfl
  | _ => simp [Instr.format] at hi

theorem decode_encode_of_txframe (hi : i.format = .txframe) : decode rcType (encode rcType i) = .ok i := by
  cases i with
  | txEnterWifi | txEnterBind | txReceiveData | txSetStatus | txReconnect | txDisconnect | txQueryBinding
  | txQueryUartLinked => rfl
  | _ => cases hi

variable {rcType}

theorem decode_encode_of_rxframe (hrc : rcType ≠ ccType) (hi : i.format = .rxframe) (hwf : i.wf rcType = true) :
    decode rcType (encode rcType i) = .ok i := by
  obtain ⟨⟨a, n, t, payload, k⟩, hf, henc⟩ := encode_eq_wire rcType hi
  obtain ⟨hvalid, hsel⟩ := Bool.and_eq_true_iff.1 hwf
  rw [Instr.frameValid, hf] at hvalid
  obtain ⟨p0, rest, rfl⟩ := List.exists_cons_of_ne_nil (Frame.payload_ne_nil hvalid)
  rw [henc, decode, decodeRx_wire, rxRow_of_rxFrameOf hrc hf hsel]

end DecodeEncode

/-- Settles O9, by the six formats of the table: the fields of an operation word are read back, a line is itself, and the bytes
of a frame select the row that stands for it. -/
theorem decodeOfEncodeIsTheInstruction : Obligations.DecodeOfEncodeIsTheInstruction := by
  intro rcType i hrc hwf
  cases hi : i.format with
  | hostop => exact decode_encode_of_hostop rcType hi
  | pseudo | micro | func => rw [encode_eq_line rcType (by simp [hi]), decode]
  | rxframe => exact decode_encode_of_rxframe hrc hi hwf
  | txframe => exact decode_encode_of_txframe rcType hi

/-- Settles O8: each operation code's row keeps the fields it uses, and the fields put together are the word. -/
theorem hostWordFieldsAreReadWhole : Obligations.HostWordFieldsAreReadWhole := by
  intro rcType h
  refine ⟨(hostWord_fields h).symm, fun hop => ?_, fun hop => ?_, fun hop => ?_, fun hop => ?_, ?_⟩
  · rw [decodeHostop_rxByte hop, encode, ← hop, hostWord_fields]
  · rw [decodeHostop_poll hop, encode]
  · rw [decodeHostop_setUart hop, encode, setUart_data]
  · rw [decodeHostop_encode hop, encode]
  · rintro (hop | hop | hop | hop)
    · rw [decodeHostop_nop hop, encode, hop]
    · rw [decodeHostop_reset hop, encode, hop]
    · rw [decodeHostop_reserved6 hop, encode, hop]
    · rw [decodeHostop_reserved7 hop, encode, hop]

/-! ### The table's masks -/

/-- Concatenations at one place are equal where both parts are. -/
theorem bitVec_append_inj {w v : Nat} {x x' : BitVec w} {y y' : BitVec v} : x ++ y = x' ++ y' ↔ x = x' ∧ y = y' := by
  refine ⟨fun h => ⟨?_, ?_⟩, by rintro ⟨rfl, rfl⟩; rfl⟩
  · simpa only [BitVec.extractLsb'_append_eq_left] using congrArg (BitVec.extractLsb' v w) h
  · simpa only [BitVec.extractLsb'_append_eq_right] using congrArg (BitVec.extractLsb' 0 v) h

/-- The four bytes of a word of the table. -/
theorem append_bytes (w : BitVec 32) :
    w.extractLsb' 24 8 ++ w.extractLsb' 16 8 ++ w.extractLsb' 8 8 ++ w.extractLsb' 0 8 = w := by
  have htwo : w.extractLsb' 24 8 ++ w.extractLsb' 16 8 = w.extractLsb' 16 16 :=
    BitVec.extractLsb'_append_extractLsb'_eq_extractLsb' rfl
  have hthree : w.extractLsb' 16 16 ++ w.extractLsb' 8 8 = w.extractLsb' 8 24 :=
    BitVec.extractLsb'_append_extractLsb'_eq_extractLsb' rfl
  have hfour : w.extractLsb' 8 24 ++ w.extractLsb' 0 8 = w.extractLsb' 0 32 :=
    BitVec.extractLsb'_append_extractLsb'_eq_extractLsb' rfl
  rw [htwo, hthree, hfour, BitVec.extractLsb'_eq_self]

section FirstRow
variable (a n t p0 : Byte)

/-- A mask tests the word of a frame's first four bytes byte by byte (R61). -/
theorem word_matches_iff (mask matched : BitVec 32) : (a ++ n ++ t ++ p0) &&& mask = matched ↔
    a &&& mask.extractLsb' 24 8 = matched.extractLsb' 24 8 ∧ n &&& mask.extractLsb' 16 8 = matched.extractLsb' 16 8 ∧
      t &&& mask.extractLsb' 8 8 = matched.extractLsb' 8 8 ∧ p0 &&& mask.extractLsb' 0 8 = matched.extractLsb' 0 8 := by
  conv_lhs => rw [← append_bytes mask, ← append_bytes matched]
  rw [BitVec.and_append, BitVec.and_append, BitVec.and_append, bitVec_append_inj, bitVec_append_inj,
    bitVec_append_inj, and_assoc, and_assoc]

/-- A byte that the mask covers is compared whole. -/
theorem and_byteMask (b : Byte) : b &&& 255#8 = b := BitVec.and_allOnes

/-- The masks of the table, in file order, in the bytes they test (R61). -/
theorem firstRow_eq : firstRow (a ++ n ++ t ++ p0) = some (
    if n = rcLength ∧ t = rcTypeDefault then "RC_CHANNELS"
    else if t = ccType ∧ p0 = CustomerCommand.enterWifi.code then "CC.EnterWifi"
    else if t = ccType ∧ p0 = CustomerCommand.enterBind.code then "CC.EnterBind"
    else if t = ccType ∧ p0 = CustomerCommand.receiveData.code then "CC.ReceiveData"
    else if t = ccType ∧ p0 = CustomerCommand.setStatus.code then "CC.SetStatus"
    else if t = ccType ∧ p0 = CustomerCommand.reconnect.code then "CC.Reconnect"
    else if t = ccType ∧ p0 = CustomerCommand.disconnect.code then "CC.Disconnect"
    else if t = ccType ∧ p0 = CustomerCommand.queryBinding.code then "CC.QueryBinding"
    else if t = ccType ∧ p0 = CustomerCommand.queryUartLinked.code then "CC.QueryUartLinked"
    else if t = rcTypeDefault then "RC_BADLEN"
    else if t = ccType then "CC_UNKNOWN"
    else "OTHER_TYPE") := by
  have hrow (r : RxTableRow) (rows : List RxTableRow) (p : RxTableRow → Bool) :
      ((r :: rows).find? p).map (·.mnemonic) = if p r then some r.mnemonic else (rows.find? p).map (·.mnemonic) := by
    rw [List.find?_cons]
    cases p r <;> rfl
  simp only [firstRow, rxTable, hrow, beq_iff_eq, word_matches_iff, apply_ite some]
  simp [and_byteMask, rcLength, rcTypeDefault, ccType, CustomerCommand.code]
  -- The two sides differ only in the decision procedures' arguments, which `simp` leaves folded.
  rfl

end FirstRow

/-- Settles O11: the table's masks, tried in file order, make the choice of `rxRow` on type, length and `payload[0]`. -/
theorem receivedRowsFollowTheTablesMasks : Obligations.ReceivedRowsFollowTheTablesMasks := by
  intro a n t p0 rest k
  change _ = some (rxRow rcTypeDefault a n t p0 rest k).mnemonic
  have hdiff : rcTypeDefault ≠ ccType := by decide
  rw [firstRow_eq]
  by_cases hrc : t = rcTypeDefault
  · subst hrc
    by_cases hn : n = rcLength
    · subst hn
      simp [rxRow_rcChannels, Instr.mnemonic]
    · simp [rxRow_rcBadLen hn, Instr.mnemonic, hdiff, hn]
  by_cases hcc : t = ccType
  · subst hcc
    cases hc : commandOfCode p0 with
    | some cmd =>
      obtain rfl := commandOfCode_eq_some_iff.1 hc
      rw [rxRow_commandRow hdiff]
      cases cmd <;> simp [hrc, CustomerCommand.code, commandRow, Instr.mnemonic]
    | none => simp [rxRow_ccUnknown hdiff hc, Instr.mnemonic, hrc, commandOfCode_eq_none_iff.1 hc]
  · simp [rxRow_otherType hrc hcc, Instr.mnemonic, hrc, hcc]

/-! ### The spec's words, and the micro-steps -/

/-- Settles O12, by running the decoder on each word. -/
theorem specWordsDecode : Obligations.SpecWordsDecode := by
  refine ⟨?_, ?_, ?_, ?_, ?_, ?_, ?_, ?_, ?_⟩ <;> decide

theorem State.whenTurn_of_ne {s : State} {turn : Turn} (hturn : parseTurn s.buf ≠ turn) (after : State) :
    s.whenTurn turn after = s := if_neg hturn

/-- Settles O26: each of the five micro-steps that remove bytes runs under the condition of its own row. -/
theorem unselectedMicroStepsDoNothing : Obligations.UnselectedMicroStepsDoNothing := by
  intro s
  refine ⟨fun hcnt => ?_, fun ht => ?_, fun ht => ?_, fun ht => ?_, fun ht => ?_⟩
  · exact congrArg _ (if_neg hcnt)
  all_goals exact congrArg _ (State.whenTurn_of_ne ht _)

end Sys2Proof.Machine
end

section
/-! The CRC8 validator (40_crc8.md): the bit-serial shift is linear over GF(2) and loses no byte, the table holds eight of its
shifts, and what that gives for the fold over a message, its residue and the errors it detects. -/

namespace Sys2Proof.Machine

/-! ### The shift of the bit-serial register (R66) -/

theorem crcShift_eq_xor (c : Byte) : crcShift c = (c <<< 1) ^^^ (if c.msb then crcPoly else 0) := by
  unfold crcShift
  split <;> simp

/-- GF(2)-linearity: a shift adds the generator exactly when a 1 leaves the register, and both parts are linear (R71). -/
theorem crcShift_xor (a b : Byte) : crcShift (a ^^^ b) = crcShift a ^^^ crcShift b := by
  have hpoly : (if (a ^^^ b).msb then crcPoly else 0) =
      (if a.msb then crcPoly else 0) ^^^ (if b.msb then crcPoly else 0) := by
    rw [BitVec.msb_xor]
    cases a.msb <;> cases b.msb <;> rfl
  rw [crcShift_eq_xor, crcShift_eq_xor, crcShift_eq_xor, hpoly, BitVec.shiftLeft_xor_distrib]
  ac_rfl

theorem crcShift_of_msb_false {c : Byte} (h : c.msb = false) : crcShift c = c <<< 1 := by
  simp [crcShift, h]

/-- The generator's constant term makes up for the bit that a shift drops, so only 0 is shifted to 0 (R72). -/
theorem crcShift_eq_zero_iff : ∀ c : Byte, crcShift c = 0 ↔ c = 0 := by decide

theorem crcShifts_xor (n : Nat) (a b : Byte) : crcShifts n (a ^^^ b) = crcShifts n a ^^^ crcShifts n b := by
  induction n generalizing a b with
  | zero => rfl
  | succ n ih => simp only [crcShifts, crcShift_xor, ih]

theorem crcShifts_add (m n : Nat) (c : Byte) : crcShifts (m + n) c = crcShifts n (crcShifts m c) := by
  induction m generalizing c with
  | zero => simp [crcShifts]
  | succ m ih => rw [Nat.succ_add]; exact ih (crcShift c)

theorem crcShifts_eq_zero_iff (n : Nat) (c : Byte) : crcShifts n c = 0 ↔ c = 0 := by
  induction n generalizing c with
  | zero => rfl
  | succ n ih => exact (ih _).trans (crcShift_eq_zero_iff c)

/-- As long as no 1 leaves the register, shifting adds no generator. -/
theorem crcShifts_of_lt {n : Nat} {c : Byte} (hn : n ≤ 8) (hc : c.toNat < 2 ^ (8 - n)) : crcShifts n c = c <<< n := by
  induction n generalizing c with
  | zero => simp [crcShifts]
  | succ n ih =>
    have hpow : 2 ^ (8 - n) = 2 * 2 ^ (8 - (n + 1)) := by rw [← Nat.pow_succ']; congr 1; omega
    have hle : 2 ^ (8 - (n + 1)) ≤ 2 ^ 7 := Nat.pow_le_pow_right (by decide) (by omega)
    have hmsb : c.msb = false := by rw [BitVec.msb_eq_false_iff_two_mul_lt]; omega
    have hshift : (c <<< 1).toNat = 2 * c.toNat := by
      rw [BitVec.toNat_shiftLeft, Nat.shiftLeft_eq]; omega
    rw [crcShifts, crcShift_of_msb_false hmsb, ih (by omega) (by omega), ← BitVec.shiftLeft_add, Nat.add_comm]

/-! ### The table (R67) -/

set_option maxRecDepth 20000 in
/-- The literal table, entry by entry, against the generator: what R67 asks a model to evaluate. -/
theorem rom_eq_map_crcShifts : rom = (List.range 256).map fun i => crcShifts 8 (BitVec.ofNat 8 i) := by decide

theorem romRead_eq_crcShifts (i : Byte) : romRead i = crcShifts 8 i := by
  simp [romRead, rom_eq_map_crcShifts, List.getElem?_range i.isLt]

theorem romRead_xor (a b : Byte) : romRead (a ^^^ b) = romRead a ^^^ romRead b := by
  simp only [romRead_eq_crcShifts, crcShifts_xor]

theorem romRead_eq_zero_iff (i : Byte) : romRead i = 0 ↔ i = 0 := by
  rw [romRead_eq_crcShifts, crcShifts_eq_zero_iff]

/-- A linear map whose kernel is 0 is injective. -/
theorem romRead_injective : Function.Injective romRead := fun a b h =>
  have hdiff : romRead (a ^^^ b) = 0 := (romRead_xor a b).trans (BitVec.xor_eq_zero_iff.2 h)
  BitVec.xor_eq_zero_iff.1 ((romRead_eq_zero_iff _).1 hdiff)

/-- Settles O13, from the table's comparison with the generator. -/
theorem romHoldsTheGeneratedTable : Obligations.RomHoldsTheGeneratedTable :=
  ⟨by simp [rom_eq_map_crcShifts], fun i => by simp [romRead_eq_crcShifts, crcBitwise, crcInit]⟩

/-- Settles O14: linear with kernel 0, hence injective, hence surjective on the finite set of bytes. -/
theorem romIsAnInvertibleLinearMap : Obligations.RomIsAnInvertibleLinearMap :=
  ⟨romRead_xor, fun _ _ h => romRead_injective h, Finite.surjective_of_injective romRead_injective⟩

/-! ### The fold over a message (R68 to R70) -/

theorem crc8_singleton (b : Byte) : crc8 [b] = romRead b := by
  simp [crc8, crc8Step, crcInit]

theorem crc8_append_singleton (m : List Byte) (e : Byte) : crc8 (m ++ [e]) = romRead (crc8 m ^^^ e) := by
  simp [crc8, crc8Step]

theorem crc8_zero_cons (m : List Byte) : crc8 (0 :: m) = crc8 m := rfl

/-- The residue form of the comparison (R69). -/
theorem crc8_append_singleton_eq_zero_iff (m : List Byte) (e : Byte) : crc8 (m ++ [e]) = 0 ↔ crc8 m = e := by
  rw [crc8_append_singleton, romRead_eq_zero_iff]
  exact BitVec.xor_eq_zero_iff

theorem crc8Verify_iff (m : List Byte) (e : Byte) : crc8Verify m e = true ↔ crc8 m = e := beq_iff_eq

/-- Settles O15: one table read is the eight shifts of one byte, whatever the register holds. -/
theorem crcEqualsTheBitSerialDefinition : Obligations.CrcEqualsTheBitSerialDefinition := by
  intro m
  have hstep : crc8Step = fun c b => crcShifts 8 (c ^^^ b) := by
    funext c b
    exact romRead_eq_crcShifts _
  rw [crc8, crcBitwise, hstep]

/-- Settles O16: the last corner case is the residue form with `e` the checksum itself. -/
theorem crcCornerCases : Obligations.CrcCornerCases := by
  refine ⟨rfl, crc8_singleton, crc8_zero_cons, fun m => ?_, by decide⟩
  exact (crc8_append_singleton_eq_zero_iff m _).2 rfl

/-- Settles O17: each row answers with its value, and `respond` writes only `results`. -/
theorem crcFunctionsReturnTheirValue : Obligations.CrcFunctionsReturnTheirValue :=
  ⟨fun _ _ _ => rfl, fun _ _ => rfl, fun _ _ _ => rfl, by decide⟩

/-- Settles O18: the table sends only 0 to 0, so the residue is zero exactly when the comparison holds. -/
theorem verifyIsTheZeroResidue : Obligations.VerifyIsTheZeroResidue := by
  refine ⟨crc8Verify_iff, fun m e => ?_, fun _ _ _ => rfl, rfl, by decide, by decide⟩
  exact (crc8Verify_iff m e).trans (crc8_append_singleton_eq_zero_iff m e).symm

/-! ### Linearity and errors (R71, R72) -/

theorem crc8Step_xor (a b c d : Byte) : crc8Step (a ^^^ b) (c ^^^ d) = crc8Step a c ^^^ crc8Step b d := by
  rw [crc8Step, crc8Step, crc8Step, ← romRead_xor]
  ac_rfl

/-- R71 from any two registers. -/
theorem foldl_crc8Step_xorBytes {m d : List Byte} (h : m.length = d.length) (a b : Byte) :
    (xorBytes m d).foldl crc8Step (a ^^^ b) = m.foldl crc8Step a ^^^ d.foldl crc8Step b := by
  induction m generalizing d a b with
  | nil =>
    cases d with
    | nil => rfl
    | cons => cases h
  | cons x m ih =>
    cases d with
    | nil => cases h
    | cons y d => simpa [xorBytes, crc8Step_xor] using ih (Nat.succ.inj h) (crc8Step a x) (crc8Step b y)

/-- Settles O19, from two zero registers. -/
theorem crcIsLinear : Obligations.CrcIsLinear := fun _ _ h => foldl_crc8Step_xorBytes h crcInit crcInit

/-- The error alone makes the residue (R71). -/
theorem crc8_xorBytes_of_residue_zero {c d : List Byte} (hlen : c.length = d.length) (hc : crc8 c = 0) :
    crc8 (xorBytes c d) = crc8 d := by
  rw [crcIsLinear c d hlen, hc]
  exact BitVec.zero_xor

/-- Whether an error is detected depends on the error alone: it is missed exactly when it passes the check itself (R71). -/
theorem crc8Verify_xorBytes {m d : List Byte} {e : Byte} (hlen : d.length = m.length) (hm : crc8Verify m e = true)
    (de : Byte) : crc8Verify (xorBytes m d) (e ^^^ de) = crc8Verify d de := by
  rw [crc8Verify_iff] at hm
  rw [Bool.eq_iff_iff, crc8Verify_iff, crc8Verify_iff, crcIsLinear m d hlen.symm, hm, BitVec.xor_right_inj]

/-! ### The parity of a message (R72) -/

theorem byteWeight_xor (a b : Byte) : byteWeight (a ^^^ b) % 2 = (byteWeight a + byteWeight b) % 2 := by
  simp only [byteWeight, BitVec.getLsbD_xor]
  induction List.range 8 with
  | nil => rfl
  | cons j js ih =>
    cases ha : a.getLsbD j <;> cases hb : b.getLsbD j <;> simp [ha, hb] <;> omega

/-- The generator's six terms: `x + 1` divides it, so a shift keeps the parity (R72). -/
theorem byteWeight_crcShift : ∀ c : Byte, byteWeight (crcShift c) % 2 = byteWeight c % 2 := by decide

theorem byteWeight_crcShifts (n : Nat) (c : Byte) : byteWeight (crcShifts n c) % 2 = byteWeight c % 2 := by
  induction n generalizing c with
  | zero => rfl
  | succ n ih => exact (ih _).trans (byteWeight_crcShift c)

theorem byteWeight_crc8Step (acc b : Byte) : byteWeight (crc8Step acc b) % 2 = (byteWeight acc + byteWeight b) % 2 := by
  rw [crc8Step, romRead_eq_crcShifts, byteWeight_crcShifts, byteWeight_xor]

theorem bitWeight_append_singleton (m : List Byte) (b : Byte) : bitWeight (m ++ [b]) = bitWeight m + byteWeight b := by
  simp [bitWeight]

/-- The checksum has the parity of its message. -/
theorem byteWeight_crc8 (m : List Byte) : byteWeight (crc8 m) % 2 = bitWeight m % 2 := by
  induction m using List.reverseRecOn with
  | nil => rfl
  | append_singleton m b ih =>
    have hstep : crc8 (m ++ [b]) = crc8Step (crc8 m) b := crc8_append_singleton m b
    rw [hstep, byteWeight_crc8Step, bitWeight_append_singleton]
    omega

/-- Settles O20: an error that passes the check has as many 1 bits before its last byte as in it, up to parity. -/
theorem oddBitErrorsAreDetected : Obligations.OddBitErrorsAreDetected := by
  intro m d e de hlen hm hodd
  rw [crc8Verify_xorBytes hlen hm, Bool.eq_false_iff, Ne, crc8Verify_iff]
  rintro rfl
  have hpar := byteWeight_crc8 d
  rw [bitWeight_append_singleton] at hodd
  omega

/-! ### Bursts (R72) -/

theorem crc8_replicate_zero_append (p : Nat) (m : List Byte) : crc8 (List.replicate p 0 ++ m) = crc8 m := by
  induction p with
  | zero => rfl
  | succ p ih => rwa [List.replicate_succ, List.cons_append, crc8_zero_cons]

theorem crc8_append_replicate_zero_eq_zero_iff (m : List Byte) (q : Nat) :
    crc8 (m ++ List.replicate q 0) = 0 ↔ crc8 m = 0 := by
  induction q with
  | zero => simp
  | succ q ih => rw [List.replicate_succ', ← List.append_assoc, crc8_append_singleton_eq_zero_iff, ih]

/-- Moving a byte up, back and up again loses no more than moving it up once. -/
theorem lower_shiftLeft (c : Byte) (k : Nat) : ((c <<< k) >>> k) <<< k = c <<< k := by
  ext i hi
  by_cases h : i < k
  · simp [h]
  · have hkept : k + (i - k) < 8 := by omega
    simp [h, hkept]

section Halves
variable {k : Nat} (hk : k ≤ 8) (c : Byte)
include hk

/-- A byte is its upper `k` bits and its lower `8 - k` bits, each at its place. -/
theorem eq_upper_xor_lower : c = (c >>> (8 - k)) <<< (8 - k) ^^^ (c <<< k) >>> k := by
  ext i hi
  by_cases h : i < 8 - k
  · have hlower : k + i < 8 := by omega
    simp [h, hlower]
  · have hupper : ¬ k + i < 8 := by omega
    have hplace : 8 - k + (i - (8 - k)) = i := by omega
    simp [h, hupper, hplace, BitVec.getLsbD_eq_getElem hi]

/-- The upper `k` bits of a byte are what a shift by `k` places moves into the byte before. -/
theorem upper_eq_setWidth : ((c.setWidth 16 <<< k) >>> 8).setWidth 8 = c >>> (8 - k) := by
  ext i hi
  have hplace : 8 + i - k = 8 - k + i := by omega
  have hmoved : ¬ 8 + i < k := by omega
  have hwidth : 8 + i < 16 := by omega
  simp [hplace, hmoved, hwidth]

/-- `k` shifts of a byte: its upper bits pass through the whole register, its lower bits stay in it. -/
theorem crcShifts_eq_upper_xor_lower : crcShifts k c = crcShifts 8 (c >>> (8 - k)) ^^^ (c <<< k) := by
  have hupper : crcShifts (8 - k) (c >>> (8 - k)) = (c >>> (8 - k)) <<< (8 - k) :=
    crcShifts_of_lt (Nat.sub_le 8 k) (BitVec.toNat_ushiftRight_lt c _ (Nat.sub_le 8 k))
  have hlower : crcShifts k ((c <<< k) >>> k) = c <<< k :=
    (crcShifts_of_lt hk (BitVec.toNat_ushiftRight_lt _ k hk)).trans (lower_shiftLeft c k)
  calc crcShifts k c
      = crcShifts k (crcShifts (8 - k) (c >>> (8 - k)) ^^^ (c <<< k) >>> k) := by
        rw [hupper, ← eq_upper_xor_lower hk]
    _ = crcShifts 8 (c >>> (8 - k)) ^^^ (c <<< k) := by
        rw [crcShifts_xor, ← crcShifts_add, Nat.sub_add_cancel hk, hlower]

/-- The checksum of a byte shifted by `k` places into two is the table's entry for the byte after `k` shifts. -/
theorem crc8_upper_lower : crc8 [c >>> (8 - k), c <<< k] = romRead (crcShifts k c) := by
  rw [crcShifts_eq_upper_xor_lower hk, ← romRead_eq_crcShifts, ← crc8_singleton (c >>> (8 - k))]
  exact crc8_append_singleton [c >>> (8 - k)] (c <<< k)

end Halves

/-- Settles O21: the residue is that of the burst, and neither its shifts nor the zero bytes after it bring it to 0. -/
theorem shortBurstsAreDetected : Obligations.ShortBurstsAreDetected := by
  intro c p q burst k hc hlen hburst hk
  have hlo : (burst.setWidth 16 <<< k).setWidth 8 = burst <<< k := by simp
  rw [upper_eq_setWidth hk, hlo, crc8_xorBytes_of_residue_zero (by simp [hlen]; omega) hc, Ne,
    crc8_append_replicate_zero_eq_zero_iff, crc8_replicate_zero_append, crc8_upper_lower hk, romRead_eq_zero_iff,
    crcShifts_eq_zero_iff]
  exact hburst

end Sys2Proof.Machine
end

section
/-! The frame reassembler (41_reassembler.md): which turn a buffer selects, what each micro-step then does, how turns make up
`PARSE()`, and what FEED does while a frame is arriving, when it is complete, and after a byte of noise. -/

namespace Sys2Proof.Machine

/-! ### The turn a buffer selects -/

/-- The loop stops at this buffer (R80, R85). -/
def Waits (buf : List Byte) : Prop := parseTurn buf = .waitHdr ∨ parseTurn buf = .waitBody

theorem waits_of_length_lt {buf : List Byte} (h : buf.length < 2) : Waits buf :=
  .inl (if_pos h)

/-- A frame whose header is legal and whose payload has the length it says (R45, R47, R48); of its crc nothing is asked. -/
def Frame.framed (f : Frame) : Prop :=
  isRecognized f.address = true ∧ (3 ≤ f.length.toNat ∧ f.length.toNat ≤ 62) ∧ f.payload.length + 2 = f.length.toNat

theorem Frame.framed_of_valid {f : Frame} (hf : f.valid = true) : f.framed := by
  obtain ⟨haddr, hrange, hlen, -⟩ := f.valid_iff.1 hf
  exact ⟨haddr, hrange, hlen⟩

theorem Frame.wire_ne_nil (f : Frame) : f.wire ≠ [] := List.cons_ne_nil _ _

theorem Frame.framed.payload_length {f : Frame} (hf : f.framed) : f.payload.length + 2 = f.length.toNat := hf.2.2

theorem Frame.framed.length_wire {f : Frame} (hf : f.framed) : f.wire.length = 2 + f.length.toNat := by
  have hlen := hf.payload_length
  rw [Frame.length_wire]
  omega

theorem parseTurn_of_badAddress {a : Byte} (ha : isRecognized a = false) (n : Byte) (rest : List Byte) :
    parseTurn (a :: n :: rest) = .dropAddr := by
  simp [parseTurn, ha]

theorem parseTurn_of_badLength {a n : Byte} (ha : isRecognized a = true) (hn : lengthOk n = false) (rest : List Byte) :
    parseTurn (a :: n :: rest) = .dropLen := by
  simp [parseTurn, ha, hn]

/-- With a legal header the turn is settled by the number of bytes after it, then by the crc (R77). -/
theorem parseTurn_of_header {a n : Byte} (ha : isRecognized a = true) (hn : lengthOk n = true) (body : List Byte) :
    parseTurn (a :: n :: body) = if body.length < n.toNat then .waitBody
      else if candidateCrc (a :: n :: body) = (frameAt (a :: n :: body)).crc then .accept else .dropCrc := by
  have hsize : candidateSize (a :: n :: body) = n.toNat + 2 := Nat.add_comm 2 n.toNat
  simp [parseTurn, ha, hn, hsize]

/-- A complete candidate whose crc does not match is dropped (R82). -/
theorem parseTurn_of_badCrc {f : Frame} (hf : f.framed) (hcrc : crc8 (f.type :: f.payload) ≠ f.crc) (rest : List Byte) :
    parseTurn (f.wire ++ rest) = .dropCrc := by
  obtain ⟨haddr, hrange, hlen⟩ := hf
  have hbody : ¬ (f.type :: (f.payload ++ [f.crc]) ++ rest).length < f.length.toNat := by
    simp only [List.cons_append, List.length_cons, List.length_append, List.length_nil]
    omega
  have hbad : candidateCrc (f.wire ++ rest) ≠ (frameAt (f.wire ++ rest)).crc := by
    rwa [candidateCrc_wire hlen, frameAt_wire hlen]
  exact (parseTurn_of_header haddr ((lengthOk_iff _).2 hrange) _).trans ((if_neg hbody).trans (if_neg hbad))

/-- While a frame is not complete the loop waits for its header or its body (R80, R85). -/
theorem Frame.framed.waits_of_prefix {f : Frame} (hf : f.framed) {buf : List Byte} (hp : buf <+: f.wire)
    (hlt : buf.length < f.wire.length) : Waits buf := by
  rw [hf.length_wire] at hlt
  obtain ⟨haddr, hrange, -⟩ := hf
  match buf, hp, hlt with
  | [], _, _ | [_], _, _ => exact waits_of_length_lt (by simp)
  | a :: n :: body, hp, hlt =>
    simp only [Frame.wire, List.cons_prefix_cons] at hp
    obtain ⟨rfl, rfl, -⟩ := hp
    rw [List.length_cons, List.length_cons] at hlt
    exact .inr ((parseTurn_of_header haddr ((lengthOk_iff _).2 hrange) body).trans (if_pos (by omega)))

/-! ### The micro-steps -/

theorem State.append_of_cnt_ne {s : State} (h : s.cnt ≠ 64) (b : Byte) : s.append b = { s with buf := s.buf ++ [b] } := by
  have hcap : s.cnt ≠ cap := h
  simp [State.append, hcap]

theorem State.append_of_cnt_eq {s : State} (h : s.cnt = 64) (b : Byte) :
    s.append b = { s with buf := s.buf.drop 1 ++ [b], trace := s.trace ++ [.overflow] } := by
  have hcap : s.cnt = cap := h
  simp [State.append, hcap]

theorem State.whenTurn_of_eq {s : State} {turn : Turn} (hturn : parseTurn s.buf = turn) (after : State) :
    s.whenTurn turn after = after := if_pos hturn

/-- Settles O22: APPEND's two cases, and DROP_OVF under its condition. -/
theorem appendAddsTheByteAtTheEnd : Obligations.AppendAddsTheByteAtTheEnd :=
  ⟨fun b _ h => congrArg _ (State.append_of_cnt_ne h b), fun b _ h => congrArg _ (State.append_of_cnt_eq h b),
    fun _ h => congrArg _ (if_pos h)⟩

/-- Settles O24: a wait answers its own state, selected or not. -/
theorem waitsWriteNothing : Obligations.WaitsWriteNothing := fun _ => ⟨congrArg _ (ite_self _), congrArg _ (ite_self _)⟩

/-- Settles O23: each header or candidate selects its discard, and the discard records what the candidate's fields are. -/
theorem discardsRemoveExactlyTheFirstByte : Obligations.DiscardsRemoveExactlyTheFirstByte := by
  refine ⟨?_, ?_, ?_⟩
  · intro s a n rest hbuf hEE hEA hC8
    have haddr : isRecognized a = false := by
      rw [Bool.eq_false_iff, Ne, isRecognized_iff]
      exact not_or.2 ⟨hEE, not_or.2 ⟨hEA, hC8⟩⟩
    have hturn : parseTurn s.buf = .dropAddr := hbuf ▸ parseTurn_of_badAddress haddr n rest
    refine congrArg _ ((State.whenTurn_of_eq hturn _).trans ?_)
    simp [State.dropAddr, State.discard, hbuf]
  · intro s a n rest hbuf haddr hrange
    have hlen : lengthOk n = false := by
      rw [Bool.eq_false_iff, Ne, lengthOk_iff]
      omega
    have hturn : parseTurn s.buf = .dropLen := hbuf ▸ parseTurn_of_badLength ((isRecognized_iff a).2 haddr) hlen rest
    refine congrArg _ ((State.whenTurn_of_eq hturn _).trans ?_)
    simp [State.dropLen, State.discard, hbuf]
  · intro s f rest hbuf haddr hmin hmax hlen hcrc
    have hf : f.framed := ⟨(isRecognized_iff _).2 haddr, ⟨hmin, hmax⟩, hlen⟩
    have hturn : parseTurn s.buf = .dropCrc := hbuf ▸ parseTurn_of_badCrc hf hcrc rest
    refine congrArg _ ((State.whenTurn_of_eq hturn _).trans ?_)
    rw [State.dropCrc, State.discard, hbuf, candidateCrc_wire hlen, frameAt_wire hlen]

/-- ACCEPT with a frame's bytes at the front (R81). -/
theorem State.accept_of_wire {s : State} {f : Frame} {rest : List Byte} (hf : f.framed) (hbuf : s.buf = f.wire ++ rest) :
    s.accept = { s with buf := rest, events := s.events ++ [.evFrame f] } := by
  have hsize : candidateSize s.buf = f.wire.length := by rw [hbuf, candidateSize_wire, hf.length_wire]
  rw [State.accept, hsize, hbuf, frameAt_wire hf.payload_length, List.drop_left]

/-- Settles O25: a validated frame at the front selects ACCEPT, which removes its bytes. -/
theorem acceptEmitsAndConsumesTheFrame : Obligations.AcceptEmitsAndConsumesTheFrame := by
  intro s f rest hf hbuf
  have hturn : parseTurn s.buf = .accept := hbuf ▸ parseTurn_of_valid hf rest
  exact congrArg _ ((State.whenTurn_of_eq hturn _).trans (State.accept_of_wire (Frame.framed_of_valid hf) hbuf))

/-! ### The turns of `PARSE()` -/

/-- What one turn of `PARSE()` makes of the state (R77, R133); `parseLoop_succ` ties it to the loop. -/
def State.runTurn (s : State) (now : Timestamp) : Turn → State
  | .waitHdr | .waitBody => s
  | .dropAddr => s.dropAddr
  | .dropLen => s.dropLen
  | .accept => s.takeFrame now
  | .dropCrc => s.dropCrc

theorem State.parseLoop_of_waits {s : State} (h : Waits s.buf) (now : Timestamp) (n : Nat) :
    State.parseLoop now n s = s := by
  cases n with
  | zero => rfl
  | succ n => rcases h with h | h <;> rw [State.parseLoop, h]

theorem State.parseLoop_succ (s : State) (now : Timestamp) (n : Nat) :
    State.parseLoop now (n + 1) s = State.parseLoop now n (s.runTurn now (parseTurn s.buf)) := by
  by_cases hw : Waits s.buf
  · have hturn : s.runTurn now (parseTurn s.buf) = s := by rcases hw with h | h <;> rw [h] <;> rfl
    rw [hturn, State.parseLoop_of_waits hw, State.parseLoop_of_waits hw]
  · rw [State.parseLoop]
    cases h : parseTurn s.buf with
    | waitHdr => exact absurd (.inl h) hw
    | waitBody => exact absurd (.inr h) hw
    | dropAddr | dropLen | accept | dropCrc => rfl

/-- A discard removes one byte of a buffer that has a header (R84). -/
theorem State.discard_cnt_succ {s : State} (c : Cause) (h : parseTurn s.buf ≠ .waitHdr) :
    (s.discard c).cnt + 1 = s.cnt := by
  have hheader := two_le_of_parseTurn h
  simp only [State.cnt, State.discard_buf, List.length_drop]
  omega

/-- The shortest frame has five bytes (R48, R84). -/
theorem State.takeFrame_cnt_le {s : State} (now : Timestamp) (h : parseTurn s.buf = .accept) :
    (s.takeFrame now).cnt + 5 ≤ s.cnt := by
  obtain ⟨f, rest, hf, -, hbuf, hrest⟩ := parseTurn_accept h
  have hwire := (Frame.framed_of_valid hf).length_wire
  obtain ⟨-, ⟨hmin, -⟩, -⟩ := f.valid_iff.1 hf
  rw [State.cnt, State.cnt, State.takeFrame_buf, hrest, hbuf, List.length_append, hwire]
  omega

theorem State.runTurn_cnt_lt {s : State} (h : ¬ Waits s.buf) (now : Timestamp) :
    (s.runTurn now (parseTurn s.buf)).cnt < s.cnt := by
  have hdiscard (c : Cause) : (s.discard c).cnt < s.cnt := by
    have := State.discard_cnt_succ c fun hw => h (.inl hw)
    omega
  cases hturn : parseTurn s.buf with
  | waitHdr => exact absurd (.inl hturn) h
  | waitBody => exact absurd (.inr hturn) h
  | dropAddr | dropLen | dropCrc => exact hdiscard _
  | accept => exact Nat.lt_of_lt_of_le (Nat.lt_add_of_pos_right (by decide)) (State.takeFrame_cnt_le now hturn)

/-- More turns than bytes are enough, and more change nothing (R84). -/
theorem State.parseLoop_eq_of_cnt_lt (now : Timestamp) {m n : Nat} {s : State} (hm : s.cnt < m) (hn : s.cnt < n) :
    State.parseLoop now m s = State.parseLoop now n s := by
  induction m generalizing n s with
  | zero => exact absurd hm (Nat.not_lt_zero _)
  | succ m ih =>
    by_cases hw : Waits s.buf
    · rw [State.parseLoop_of_waits hw, State.parseLoop_of_waits hw]
    · cases n with
      | zero => exact absurd hn (Nat.not_lt_zero _)
      | succ n =>
        have hlt := State.runTurn_cnt_lt hw now
        rw [State.parseLoop_succ, State.parseLoop_succ]
        exact ih (by omega) (by omega)

theorem State.parse_of_waits {s : State} (h : Waits s.buf) (now : Timestamp) : s.parse now = s :=
  State.parseLoop_of_waits h now _

/-- `PARSE()` is its first turn and then `PARSE()` of what that leaves. -/
theorem State.parse_eq_parse_runTurn (s : State) (now : Timestamp) :
    s.parse now = (s.runTurn now (parseTurn s.buf)).parse now := by
  by_cases hw : Waits s.buf
  · rcases hw with h | h <;> rw [h] <;> rfl
  · rw [State.parse, State.parseLoop_succ]
    exact State.parseLoop_eq_of_cnt_lt now (State.runTurn_cnt_lt hw now) (Nat.lt_succ_self _)

/-- Settles O27: the turns' counts, that enough turns agree, and R18's bound where the loop stops. -/
theorem parseStopsOnlyWhenQuiescent : Obligations.ParseStopsOnlyWhenQuiescent := by
  intro s now
  have hdiscard {turn : Turn} (hne : turn ≠ .waitHdr) (c : Cause) (h : parseTurn s.buf = turn) :
      (s.discard c).cnt + 1 = s.cnt := State.discard_cnt_succ c (h ▸ hne)
  refine ⟨s.parse_waits now, fun n hn => State.parseLoop_eq_of_cnt_lt now hn (Nat.lt_succ_self _),
    hdiscard (by decide) _, hdiscard (by decide) _, hdiscard (by decide) _, State.takeFrame_cnt_le now, fun _ => ?_⟩
  obtain ⟨hcnt, -⟩ := State.quiescent_of_waiting (s.parse_waits now)
  exact hcnt

/-! ### FEED while the loop waits -/

/-- With the link bit already IS_CONNECTED(now), TIMECHECK(now) finds no edge. -/
theorem State.timecheck_of_linkUp_eq {s : State} {now : Timestamp} (h : s.linkUp = s.isConnected now) :
    s.timecheck now = s := by
  simp [State.timecheck_eq, h]

/-- TIMECHECK, all fields (R113). -/
theorem State.timecheck_eq_record (s : State) (now : Timestamp) :
    s.timecheck now = { s with linkUp := s.isConnected now, events := s.events ++ expiryEvents s now } := by
  by_cases hedge : s.linkUp = true ∧ s.isConnected now = false
  · simp [State.timecheck_eq, expiryEvents, hedge.1, hedge.2]
  · have hlink : s.linkUp = s.isConnected now := by
      rw [State.isConnected, linkAlive] at hedge ⊢
      cases hup : s.linkUp <;> simp_all
    rw [State.timecheck_of_linkUp_eq hlink, expiryEvents, if_neg hedge, List.append_nil, ← hlink]

theorem State.timecheck_timecheck_setBuf (s : State) (now : Timestamp) (buf : List Byte) :
    State.timecheck { s.timecheck now with buf := buf } now = { s.timecheck now with buf := buf } := by
  refine State.timecheck_of_linkUp_eq ?_
  simp [State.isConnected, linkAlive]

theorem State.append_of_waits {s : State} (h : Waits s.buf) (b : Byte) : s.append b = { s with buf := s.buf ++ [b] } := by
  obtain ⟨hcnt, -⟩ := State.quiescent_of_waiting h
  exact State.append_of_cnt_ne (by omega) b

/-- RX_BYTE where the loop waited before: APPEND discards nothing. -/
theorem State.rxByte_eq_parse {s : State} (h : Waits s.buf) (b : Byte) (now : Timestamp) :
    s.rxByte b now = State.parse { s.timecheck now with buf := s.buf ++ [b] } now := by
  rw [State.rxByte, State.append_of_waits (by rwa [State.timecheck_buf]), State.timecheck_buf]

/-- RX_BYTE of a byte at which the loop waits again: the link is checked and the byte is stored. -/
theorem State.rxByte_of_waits {s : State} {b : Byte} (hs : Waits s.buf) (hb : Waits (s.buf ++ [b])) (now : Timestamp) :
    s.rxByte b now = { s.timecheck now with buf := s.buf ++ [b] } := by
  rw [State.rxByte_eq_parse hs, State.parse_of_waits hb]

/-- FEED of bytes at which the loop keeps waiting: the link is checked, once in effect, and the bytes are stored. -/
theorem State.feed_of_waits {s : State} {bytes : List Byte} (hne : bytes ≠ [])
    (hw : ∀ p, p <+: bytes → Waits (s.buf ++ p)) (now : Timestamp) :
    s.feed bytes now = { s.timecheck now with buf := s.buf ++ bytes } := by
  induction bytes generalizing s with
  | nil => exact absurd rfl hne
  | cons b bytes ih =>
    have hfirst : s.rxByte b now = { s.timecheck now with buf := s.buf ++ [b] } :=
      State.rxByte_of_waits (by simpa using hw [] List.nil_prefix) (hw [b] (by simp)) now
    rw [State.feed_cons, hfirst]
    by_cases hnil : bytes = []
    · rw [hnil, State.feed_nil]
    · rw [ih hnil fun p hp => by simpa using hw (b :: p) (List.cons_prefix_cons.2 ⟨rfl, hp⟩),
        State.timecheck_timecheck_setBuf]
      simp

/-- The same for a later operation at the same time, and with nothing fed. -/
theorem State.timecheck_feed_of_waits {s : State} {bytes : List Byte} (hw : ∀ p, p <+: bytes → Waits (s.buf ++ p))
    (now : Timestamp) : (s.feed bytes now).timecheck now = { s.timecheck now with buf := s.buf ++ bytes } := by
  by_cases hnil : bytes = []
  · rw [hnil, State.feed_nil, List.append_nil, ← s.timecheck_buf now]
  · rw [State.feed_of_waits hnil hw, State.timecheck_timecheck_setBuf]

/-! ### FEED up to the end of a frame -/

/-- The bytes that complete a candidate, fed where its first bytes are in the buffer: `PARSE()` does nothing before the last. -/
theorem State.feed_to_complete {s : State} {f : Frame} (hf : f.framed) {bytes : List Byte} (hne : bytes ≠ [])
    (hwire : s.buf ++ bytes = f.wire) (now : Timestamp) :
    s.feed bytes now = State.parse { s.timecheck now with buf := f.wire } now := by
  obtain rfl | ⟨init, b, rfl⟩ := bytes.eq_nil_or_concat'
  · exact absurd rfl hne
  rw [← List.append_assoc] at hwire
  have hw (p : List Byte) (hp : p <+: init) : Waits (s.buf ++ p) := by
    have hpre : s.buf ++ p <+: s.buf ++ init := (List.prefix_append_right_inj _).2 hp
    have hlt : (s.buf ++ p).length < f.wire.length := by
      have := hpre.length_le
      rw [← hwire, List.length_append (as := s.buf ++ init), List.length_singleton]
      omega
    exact hf.waits_of_prefix (hwire ▸ hpre.trans (List.prefix_append _ _)) hlt
  have hcheck := State.timecheck_feed_of_waits hw now
  rw [State.feed_append, State.feed_cons, State.feed_nil, State.rxByte, hcheck,
    State.append_of_waits (hw init List.prefix_rfl), hwire]

/-- What the decoder's answer makes of the state, all fields (R133). -/
theorem State.deliver_eq_record (s : State) (d : Except Cause DecodedEvent) : s.deliver d =
    { s with events := s.events ++ notificationOf d, trace := s.trace ++ causeOf d } := by
  cases d <;> simp [State.deliver, State.emit, State.raise, notificationOf, causeOf]

/-- The state after a frame that stood alone in the buffer is accepted, noted and decoded (R81, R111, R133). -/
def State.frameTaken (s : State) (f : Frame) (now : Timestamp) : State :=
  { s with
    buf := []
    linkUp := true
    lastRx := now
    events := s.events ++ [.evFrame f] ++ notificationOf (decodeFrame s.cfg.rcType f)
    trace := s.trace ++ causeOf (decodeFrame s.cfg.rcType f) }

/-- A validated frame alone in the buffer is taken, and the loop stops. -/
theorem State.parse_wire {s : State} {f : Frame} (hf : f.valid = true) (hbuf : s.buf = f.wire) (now : Timestamp) :
    s.parse now = s.frameTaken f now := by
  have hwire : s.buf = f.wire ++ [] := by rw [hbuf, List.append_nil]
  have hframed := Frame.framed_of_valid hf
  have hframe : frameAt s.buf = f := hwire ▸ frameAt_wire hframed.payload_length []
  have hturn : parseTurn s.buf = .accept := hwire ▸ parseTurn_of_valid hf []
  have htake : s.takeFrame now = s.frameTaken f now := by
    rw [State.takeFrame, State.accept_of_wire hframed hwire, hframe, State.notify, State.deliver_eq_record]
    rfl
  rw [State.parse_eq_parse_runTurn, hturn, State.runTurn, htake]
  exact State.parse_of_waits (s := s.frameTaken f now) (waits_of_length_lt Nat.two_pos) now

theorem State.feed_completes_frame {s : State} {f : Frame} (hf : f.valid = true) {bytes : List Byte} (hne : bytes ≠ [])
    (hwire : s.buf ++ bytes = f.wire) (now : Timestamp) : s.feed bytes now = (s.timecheck now).frameTaken f now := by
  rw [State.feed_to_complete (Frame.framed_of_valid hf) hne hwire, State.parse_wire hf rfl]
  rfl

theorem State.feed_wire {s : State} {f : Frame} (hf : f.valid = true) (hbuf : s.buf = []) (now : Timestamp) :
    s.feed f.wire now = (s.timecheck now).frameTaken f now :=
  State.feed_completes_frame hf f.wire_ne_nil (by rw [hbuf, List.nil_append]) now

/-- Settles O33: TIMECHECK's record and the taken frame's, one after the other; the buffer was empty and is again. -/
theorem fedFrameIsAcceptedAndDelivered : Obligations.FedFrameIsAcceptedAndDelivered := by
  intro s f now hbuf hf
  refine congrArg _ ((State.feed_wire hf hbuf now).trans ?_)
  rw [State.timecheck_eq_record, State.frameTaken, hbuf]

/-! ### The frames that FEED emits -/

/-- From `s` to `t` the frames `fs` are emitted, among other events. -/
def State.EmitsFrames (s t : State) (fs : List Frame) : Prop :=
  ∃ evs, t.events = s.events ++ evs ∧ framesOf evs = fs

theorem State.EmitsFrames.refl (s : State) : s.EmitsFrames s [] := ⟨[], (List.append_nil _).symm, rfl⟩

theorem State.EmitsFrames.trans {s t u : State} {fs gs : List Frame} (h : s.EmitsFrames t fs) (h' : t.EmitsFrames u gs) :
    s.EmitsFrames u (fs ++ gs) := by
  obtain ⟨evs, hev, hfs⟩ := h
  obtain ⟨evs', hev', hgs⟩ := h'
  exact ⟨evs ++ evs', by rw [hev', hev, List.append_assoc], by rw [framesOf_append, hfs, hgs]⟩

theorem State.emitsFrames_timecheck (s : State) (now : Timestamp) : s.EmitsFrames (s.timecheck now) [] :=
  s.timecheck_adds now

theorem framesOf_notificationOf (d : Except Cause DecodedEvent) : framesOf (notificationOf d) = [] := by
  rcases d with c | (ch | cmd) <;> rfl

theorem State.emitsFrames_frameTaken (s : State) (f : Frame) (now : Timestamp) :
    s.EmitsFrames (s.frameTaken f now) [f] := by
  refine ⟨.evFrame f :: notificationOf (decodeFrame s.cfg.rcType f), List.append_assoc .., ?_⟩
  exact congrArg (f :: ·) (framesOf_notificationOf _)

/-- Completing a validated frame emits it and no other, and empties the buffer. -/
theorem State.feed_completes_emits {s : State} {f : Frame} (hf : f.valid = true) {bytes : List Byte} (hne : bytes ≠ [])
    (hwire : s.buf ++ bytes = f.wire) (now : Timestamp) :
    (s.feed bytes now).buf = [] ∧ s.EmitsFrames (s.feed bytes now) [f] := by
  rw [State.feed_completes_frame hf hne hwire]
  exact ⟨rfl, (s.emitsFrames_timecheck now).trans (State.emitsFrames_frameTaken _ f now)⟩

theorem State.feed_wire_emits {s : State} {f : Frame} (hf : f.valid = true) (hbuf : s.buf = []) (now : Timestamp) :
    (s.feed f.wire now).buf = [] ∧ s.EmitsFrames (s.feed f.wire now) [f] :=
  State.feed_completes_emits hf f.wire_ne_nil (by rw [hbuf, List.nil_append]) now

/-- FEED of bytes at which the loop keeps waiting stores them and emits no frame. -/
theorem State.feed_of_waits_emits {s : State} {bytes : List Byte} (hw : ∀ p, p <+: bytes → Waits (s.buf ++ p))
    (now : Timestamp) : (s.feed bytes now).buf = s.buf ++ bytes ∧ (s.feed bytes now).lastRx = s.lastRx ∧
      s.EmitsFrames (s.feed bytes now) [] := by
  by_cases hnil : bytes = []
  · rw [hnil, State.feed_nil, List.append_nil]
    exact ⟨rfl, rfl, .refl s⟩
  · rw [State.feed_of_waits hnil hw]
    exact ⟨rfl, s.timecheck_lastRx now, s.emitsFrames_timecheck now⟩

/-- Settles O34: the first FEED only waits, whatever it leaves of the frame, and the second completes it. -/
theorem frameSplitAnywhereIsEmittedOnce : Obligations.FrameSplitAnywhereIsEmittedOnce := by
  intro s f k now1 now2 hbuf hf hk
  have hwaits (p : List Byte) (hp : p <+: f.wire.take k) : Waits (s.buf ++ p) := by
    have hlt := hp.length_le
    rw [List.length_take] at hlt
    rw [hbuf, List.nil_append]
    exact (Frame.framed_of_valid hf).waits_of_prefix (hp.trans (List.take_prefix _ _)) (by omega)
  obtain ⟨hstored, hrx, evs1, hev1, hframes1⟩ := State.feed_of_waits_emits hwaits now1
  rw [hbuf, List.nil_append] at hstored
  have hne : f.wire.drop k ≠ [] := by rwa [Ne, List.drop_eq_nil_iff, Nat.not_le]
  have hwire : (s.feed (f.wire.take k) now1).buf ++ f.wire.drop k = f.wire := by
    rw [hstored, List.take_append_drop]
  obtain ⟨hempty, evs2, hev2, hframes2⟩ := State.feed_completes_emits hf hne hwire now2
  refine ⟨_, _, evs1, evs2, rfl, hev1, hframes1, hrx, hstored, rfl, hev2, hframes2, hempty, ?_⟩
  rw [State.feed_completes_frame hf hne hwire]
  exact ⟨rfl, rfl⟩

/-- Validated frames back to back, by induction: each leaves the empty buffer that the next one finds. -/
theorem State.feed_wires {s : State} {fs : List Frame} (hbuf : s.buf = []) (hfs : ∀ f ∈ fs, f.valid = true)
    (now : Timestamp) : (s.feed (fs.flatMap Frame.wire) now).buf = [] ∧
      s.EmitsFrames (s.feed (fs.flatMap Frame.wire) now) fs := by
  induction fs generalizing s with
  | nil => exact ⟨hbuf, .refl s⟩
  | cons f fs ih =>
    rw [List.forall_mem_cons] at hfs
    obtain ⟨hf, hfs⟩ := hfs
    obtain ⟨hempty, hfirst⟩ := State.feed_wire_emits hf hbuf now
    obtain ⟨hempty', hrest⟩ := ih hempty hfs
    rw [List.flatMap_cons, State.feed_append]
    exact ⟨hempty', hfirst.trans hrest⟩

/-- Settles O35. -/
theorem backToBackFramesComeOutInOrder : Obligations.BackToBackFramesComeOutInOrder := by
  intro s fs now hbuf hfs
  obtain ⟨hempty, evs, hev, hframes⟩ := State.feed_wires hbuf hfs now
  exact ⟨_, evs, rfl, hev, hframes, hempty⟩

/-! ### A byte of noise (R91) -/

/-- A byte of noise before a recognized address is discarded: an unknown address as such, a recognized one because the address
after it is no legal length. -/
theorem State.runTurn_noise {s : State} {x b : Byte} (hb : isRecognized b = true) (hbuf : s.buf = [x, b]) (now : Timestamp) :
    ∃ c, s.runTurn now (parseTurn s.buf) = s.discard c := by
  cases hx : isRecognized x with
  | false => exact ⟨_, by rw [hbuf, parseTurn_of_badAddress hx]; rfl⟩
  | true => exact ⟨_, by rw [hbuf, parseTurn_of_badLength hx (lengthOk_of_isRecognized hb)]; rfl⟩

theorem State.feed_noise {s : State} {x b : Byte} (hb : isRecognized b = true) (hbuf : s.buf = []) (now : Timestamp) :
    (s.feed [x, b] now).buf = [b] ∧ s.EmitsFrames (s.feed [x, b] now) [] := by
  have hfirst : s.rxByte x now = { s.timecheck now with buf := [x] } := by
    rw [State.rxByte_of_waits, hbuf, List.nil_append]
    all_goals exact waits_of_length_lt (by simp [hbuf])
  have hsecond : (s.rxByte x now).rxByte b now = State.parse { s.timecheck now with buf := [x, b] } now := by
    rw [hfirst, State.rxByte_eq_parse (waits_of_length_lt (by simp)), State.timecheck_timecheck_setBuf]
    rfl
  obtain ⟨c, hc⟩ := State.runTurn_noise (s := { s.timecheck now with buf := [x, b] }) hb rfl now
  rw [State.feed_cons, State.feed_cons, State.feed_nil, hsecond, State.parse_eq_parse_runTurn, hc,
    State.parse_of_waits (waits_of_length_lt (by simp))]
  exact ⟨rfl, s.emitsFrames_timecheck now⟩

/-- Settles O36: the first frame leaves the buffer empty, the noise goes when the second frame's address follows it, and the rest
of that frame completes it. -/
theorem noiseByteBetweenFramesIsDropped : Obligations.NoiseByteBetweenFramesIsDropped := by
  intro s f g x now hbuf hf hg
  have hsplit : f.wire ++ x :: g.wire = f.wire ++ ([x, g.address] ++ g.wire.tail) := rfl
  have haddr : isRecognized g.address = true := (g.valid_iff.1 hg).1
  have hne : g.wire.tail ≠ [] := List.cons_ne_nil _ _
  obtain ⟨hempty, hfirst⟩ := State.feed_wire_emits hf hbuf now
  obtain ⟨hstored, hnoise⟩ := State.feed_noise (x := x) haddr hempty now
  obtain ⟨hempty', hlast⟩ := State.feed_completes_emits hg hne (by rw [hstored]; rfl) now
  obtain ⟨evs, hev, hframes⟩ := (hfirst.trans hnoise).trans hlast
  rw [← State.feed_append, ← State.feed_append, ← hsplit] at hev hempty'
  exact ⟨_, evs, rfl, hev, hframes, hempty'⟩

/-! ### A flipped bit (R89, R73) -/

theorem length_flipBit (m : List Byte) (k j : Nat) : (flipBit m k j).length = m.length := by simp [flipBit]

/-- One bit error changes the parity. -/
theorem bitWeight_flipBit {m : List Byte} {k j : Nat} (hk : k < m.length) (hj : j < 8) :
    bitWeight (flipBit m k j) % 2 = (bitWeight m + 1) % 2 := by
  induction m generalizing k with
  | nil => exact absurd hk (Nat.not_lt_zero _)
  | cons b m ih =>
    cases k with
    | zero =>
      have hone : ∀ j < 8, byteWeight (1#8 <<< j) = 1 := by decide
      have hxor := byteWeight_xor b (1#8 <<< j)
      rw [hone j hj] at hxor
      simp only [flipBit, bitWeight, List.modify_zero_cons, List.map_cons, List.sum_cons]
      omega
    | succ k =>
      have hrest := ih (Nat.lt_of_succ_lt_succ hk)
      simp only [flipBit, bitWeight, List.modify_succ_cons, List.map_cons, List.sum_cons] at hrest ⊢
      omega

/-- A message with residue 0 has even parity (R72), so with one bit flipped its residue is not 0. -/
theorem crc8_flipBit_ne_zero {m : List Byte} {k j : Nat} (hm : crc8 m = 0) (hk : k < m.length) (hj : j < 8) :
    crc8 (flipBit m k j) ≠ 0 := by
  intro hzero
  have heven : bitWeight m % 2 = 0 := by rw [← byteWeight_crc8, hm]; rfl
  have heven' : bitWeight (flipBit m k j) % 2 = 0 := by rw [← byteWeight_crc8, hzero]; rfl
  have hflip := bitWeight_flipBit hk hj
  omega

/-- With a bit of `type .. crc` flipped, the bytes are those of a frame with a crc that does not match. -/
theorem Frame.exists_wire_flipBit {f : Frame} (hf : f.valid = true) {k j : Nat} (hk : k < f.length.toNat) (hj : j < 8) :
    ∃ g : Frame, f.address :: f.length :: flipBit (f.type :: (f.payload ++ [f.crc])) k j = g.wire ∧ g.framed ∧
      crc8 (g.type :: g.payload) ≠ g.crc ∧ g.length = f.length := by
  obtain ⟨haddr, hrange, hlen, hcrc⟩ := f.valid_iff.1 hf
  have hres : crc8 (f.type :: (f.payload ++ [f.crc])) = 0 :=
    (crc8_append_singleton_eq_zero_iff (f.type :: f.payload) f.crc).2 hcrc
  have hkm : k < (f.type :: (f.payload ++ [f.crc])).length := by
    simp only [List.length_cons, List.length_append, List.length_nil]
    omega
  have hbad := crc8_flipBit_ne_zero hres hkm hj
  have hflen := length_flipBit (f.type :: (f.payload ++ [f.crc])) k j
  match flipBit (f.type :: (f.payload ++ [f.crc])) k j, hbad, hflen with
  | t :: body, hbad, hflen =>
    obtain rfl | ⟨payload, crc, rfl⟩ := body.eq_nil_or_concat'
    · simp at hflen
    · refine ⟨⟨f.address, f.length, t, payload, crc⟩, rfl, ⟨haddr, hrange, ?_⟩, ?_, rfl⟩
      · have hpay : payload.length = f.payload.length := by simpa using hflen
        exact hpay ▸ hlen
      · exact fun h => hbad ((crc8_append_singleton_eq_zero_iff (t :: payload) crc).2 h)

theorem le_bytesOfFrames_of_mem {f : Frame} {fs : List Frame} (h : f ∈ fs) : 2 + f.length.toNat ≤ bytesOfFrames fs :=
  List.le_sum_of_mem (List.mem_map_of_mem h)

/-- After DROP_CRC on a candidate alone in the buffer, too few bytes are left for a frame of its length. -/
theorem State.parse_badCrc {s : State} {g : Frame} (hg : g.framed) (hcrc : crc8 (g.type :: g.payload) ≠ g.crc)
    (hbuf : s.buf = g.wire) (now : Timestamp) :
    ∃ fs, s.EmitsFrames (s.parse now) fs ∧ ∀ f ∈ fs, f.length ≠ g.length := by
  have hturn : parseTurn s.buf = .dropCrc := by
    rw [hbuf, ← g.wire.append_nil]
    exact parseTurn_of_badCrc hg hcrc []
  obtain ⟨evs, cs, hparse⟩ := State.parse_adds now s.dropCrc
  have hparse_eq : s.parse now = s.dropCrc.parse now := by
    rw [State.parse_eq_parse_runTurn, hturn, State.runTurn]
  have hcnt := hparse.cnt
  have hdrop : s.dropCrc.cnt + 1 = 2 + g.length.toNat := by
    rw [State.dropCrc, State.discard_cnt_succ _ (by simp [hturn]), State.cnt, hbuf, hg.length_wire]
  refine ⟨framesOf evs, ⟨evs, ?_, rfl⟩, fun f hmem hlen => ?_⟩
  · rw [hparse_eq, hparse.events]
    rfl
  · have hbytes := le_bytesOfFrames_of_mem hmem
    rw [hlen] at hbytes
    omega

/-- Settles O37: the flipped bit makes the residue odd, so the candidate is dropped when it is complete, and what is left of it is
shorter than the frame. -/
theorem corruptedFrameIsNotEmitted : Obligations.CorruptedFrameIsNotEmitted := by
  intro s f k j now hbuf hf hk hj
  obtain ⟨g, hwire, hg, hcrc, hlen⟩ := f.exists_wire_flipBit hf hk hj
  rw [hwire]
  refine ⟨by simpa using parseTurn_of_badCrc hg hcrc [], ?_⟩
  have hfeed := State.feed_to_complete hg g.wire_ne_nil (hbuf ▸ List.nil_append g.wire) now
  obtain ⟨fs, hemits, hshort⟩ := State.parse_badCrc (s := { s.timecheck now with buf := g.wire }) hg hcrc rfl now
  obtain ⟨evs, hev, hframes⟩ : s.EmitsFrames (s.feed g.wire now) ([] ++ fs) :=
    State.EmitsFrames.trans (s.emitsFrames_timecheck now) (hfeed ▸ hemits)
  refine ⟨_, evs, rfl, hev, fun hmem => ?_⟩
  rw [hframes] at hmem
  exact hshort f hmem hlen.symm

end Sys2Proof.Machine
end

section
/-! The payload decoder (42_decoder.md): the bits of the two little-endian streams, the decoder's answer said once for each kind of
frame, and the received row that a frame's fields select, which stands for the frame and delivers that answer. -/

namespace Sys2Proof.Machine

/-! ### Fields of `w` bits laid end to end (R54, R97, R107) -/

/-- The first field's bits stand below those of the fields after it. -/
theorem getLsbD_setWidth_or_shiftLeft {w v : Nat} (x : BitVec w) (later : BitVec v) {m : Nat} (hm : m < v) :
    (x.setWidth v ||| later <<< w).getLsbD m = if m < w then x.getLsbD m else later.getLsbD (m - w) := by
  rw [BitVec.getLsbD_or, BitVec.getLsbD_setWidth, BitVec.getLsbD_shiftLeft]
  by_cases hlow : m < w
  · simp [hm, hlow]
  · simp [hm, hlow, BitVec.getLsbD_of_ge x m (Nat.not_lt.1 hlow)]

/-- Bit `m` of such a stream is bit `m mod w` of field `m div w`; past the last field it is 0. -/
theorem getLsbD_of_fields {w v : Nat} (hw : 0 < w) {stream : List (BitVec w) → BitVec v} (hnil : stream [] = 0)
    (hcons : ∀ x xs, stream (x :: xs) = x.setWidth v ||| stream xs <<< w) (xs : List (BitVec w)) {m : Nat} (hm : m < v) :
    (stream xs).getLsbD m = (xs.getD (m / w) 0).getLsbD (m % w) := by
  induction xs generalizing m with
  | nil => simp [hnil]
  | cons x xs ih =>
    rw [hcons, getLsbD_setWidth_or_shiftLeft x _ hm]
    by_cases hlow : m < w
    · simp [hlow, Nat.div_eq_of_lt, Nat.mod_eq_of_lt]
    · have hge : w ≤ m := Nat.not_lt.1 hlow
      rw [if_neg hlow, ih (by omega), Nat.div_eq_sub_div hw hge, List.getD_cons_succ, Nat.mod_eq_sub_mod hge]

theorem getLsbD_payloadBits (p : List Byte) {m : Nat} (hm : m < 176) :
    (payloadBits p).getLsbD m = (cell p (m / 8)).getLsbD (m % 8) :=
  getLsbD_of_fields (by decide) rfl (fun _ _ => rfl) p hm

theorem getLsbD_channelBits (cs : List Channel) {m : Nat} (hm : m < 176) :
    (channelBits cs).getLsbD m = (cs.getD (m / 11) 0).getLsbD (m % 11) :=
  getLsbD_of_fields (by decide) rfl (fun _ _ => rfl) cs hm

theorem getLsbD_unpackChannels (p : List Byte) (i : Fin 16) {j : Nat} (hj : j < 11) :
    (unpackChannels p)[i].getLsbD j = (cell p ((11 * i.val + j) / 8)).getLsbD ((11 * i.val + j) % 8) := by
  have hm : 11 * i.val + j < 176 := by omega
  rw [← getLsbD_payloadBits p hm]
  simp [unpackChannels, hj]

/-- Settles O47: the sixteen fields of eleven bits read the 176 bits that the payload bytes lay down. -/
theorem rcRowUnpacksElevenBitFields : Obligations.RcRowUnpacksElevenBitFields :=
  fun _ _ p _ => ⟨unpackChannels p, rfl, fun i _ hj => getLsbD_unpackChannels p i hj⟩

/-! ### Packing and unpacking (R107) -/

theorem length_packChannels (ch : ChannelSet) : (packChannels ch).length = 22 := by simp [packChannels]

theorem cell_packChannels (ch : ChannelSet) {k : Nat} (hk : k < 22) :
    cell (packChannels ch) k = (channelBits ch.toList >>> (8 * k)).setWidth 8 := by
  simp [cell, packChannels, hk]

/-- The packed bytes lay down the channels' own bits. -/
theorem payloadBits_packChannels (ch : ChannelSet) : payloadBits (packChannels ch) = channelBits ch.toList := by
  refine BitVec.eq_of_getLsbD_eq fun m hm => ?_
  have hbit : m % 8 < 8 := Nat.mod_lt m (by decide)
  rw [getLsbD_payloadBits _ hm, cell_packChannels ch (by omega)]
  simp [hbit, Nat.div_add_mod]

theorem unpackChannels_packChannels (ch : ChannelSet) : unpackChannels (packChannels ch) = ch := by
  refine Vector.ext fun i hi => BitVec.eq_of_getLsbD_eq fun j hj => ?_
  have hfield : (11 * i + j) / 11 = i := by omega
  have hbit : (11 * i + j) % 11 = j := by omega
  have hch : ch.toList.getD i 0 = ch[i] := by simp [hi]
  calc (unpackChannels (packChannels ch))[i].getLsbD j
      = (channelBits ch.toList).getLsbD (11 * i + j) := by
        simp [unpackChannels, hj, payloadBits_packChannels]
    _ = ch[i].getLsbD j := by rw [getLsbD_channelBits _ (by omega), hfield, hbit, hch]

theorem rcFrame_valid {a : Byte} (ha : isRecognized a = true) (rcType : Byte) (ch : ChannelSet) :
    (rcFrame rcType a ch).valid = true :=
  (Frame.valid_iff _).2 ⟨ha, by simp [rcFrame], by simp [rcFrame, length_packChannels], rfl⟩

/-! ### The decoder's answers (R96) -/

section DecodeFrame
variable {rcType a n t p0 : Byte} {payload rest : List Byte} {k : Byte}

theorem decodeFrame_rcChannels :
    decodeFrame rcType ⟨a, rcLength, rcType, payload, k⟩ = .ok (.channels (unpackChannels payload)) := by
  simp [decodeFrame, decodeRc]

theorem decodeFrame_rcBadLen (hn : n ≠ rcLength) :
    decodeFrame rcType ⟨a, n, rcType, payload, k⟩ = .error (.badRcLength n) := by
  simp [decodeFrame, decodeRc, hn]

theorem decodeFrame_command (hrc : rcType ≠ ccType) (cmd : CustomerCommand) :
    decodeFrame rcType ⟨a, n, ccType, cmd.code :: rest, k⟩ = .ok (.command cmd) := by
  have hcode : commandOfCode cmd.code = some cmd := commandOfCode_eq_some_iff.2 rfl
  simp [decodeFrame, decodeCc, hrc.symm, hcode]

theorem decodeFrame_ccUnknown (hrc : rcType ≠ ccType) (hc : commandOfCode p0 = none) :
    decodeFrame rcType ⟨a, n, ccType, p0 :: rest, k⟩ = .error (.unknownSubcommand p0) := by
  simp [decodeFrame, decodeCc, hrc.symm, hc]

theorem decodeFrame_otherType (hrc : t ≠ rcType) (hcc : t ≠ ccType) :
    decodeFrame rcType ⟨a, n, t, payload, k⟩ = .error (.unknownType t) := by
  simp [decodeFrame, hrc, hcc]

end DecodeFrame

/-- Settles O48: fed whole, the validated frame is taken (O33), and its payload unpacks to the channels it was packed from. -/
theorem channelSetRoundTrip : Obligations.ChannelSetRoundTrip := by
  intro s ch a now hbuf ha
  have hvalid := rcFrame_valid ((isRecognized_iff a).2 ha) s.cfg.rcType ch
  have hdecode : decodeFrame s.cfg.rcType (rcFrame s.cfg.rcType a ch) = .ok (.channels ch) :=
    decodeFrame_rcChannels.trans (by rw [unpackChannels_packChannels])
  refine ⟨hvalid, ?_⟩
  rw [fedFrameIsAcceptedAndDelivered s _ now hbuf hvalid, hdecode]
  simp [notificationOf, causeOf, DecodedEvent.event]

/-! ### The row of a frame (R59, R61, R105) -/

theorem exec_commandRow (cmd : CustomerCommand) (a n : Byte) (rest : List Byte) (k : Byte) (s : State) :
    exec (commandRow cmd a n rest k) s = .next (s.deliver (.ok (.command cmd))) := by
  cases cmd <;> rfl

section RxRow
variable {rcType a n t p0 : Byte} {rest : List Byte} {k : Byte}

/-- The five kinds of row that a frame's fields can select, with what each says of the fields. -/
theorem rxRow_rule (hrc : rcType ≠ ccType) {P : Frame → Instr → Prop}
    (hchannels : P ⟨a, rcLength, rcType, p0 :: rest, k⟩ (.rcChannels a (p0 :: rest) k))
    (hbadLen : n ≠ rcLength → P ⟨a, n, rcType, p0 :: rest, k⟩ (.rcBadLen a n (p0 :: rest) k))
    (hcommand : ∀ cmd, P ⟨a, n, ccType, cmd.code :: rest, k⟩ (commandRow cmd a n rest k))
    (hunknown : commandOfCode p0 = none → P ⟨a, n, ccType, p0 :: rest, k⟩ (.ccUnknown a n p0 rest k))
    (hother : t ≠ rcType → t ≠ ccType → P ⟨a, n, t, p0 :: rest, k⟩ (.otherType a n t (p0 :: rest) k)) :
    P ⟨a, n, t, p0 :: rest, k⟩ (rxRow rcType a n t p0 rest k) := by
  by_cases hrt : t = rcType
  · subst hrt
    by_cases hn : n = rcLength
    · subst hn
      exact rxRow_rcChannels ▸ hchannels
    · exact rxRow_rcBadLen hn ▸ hbadLen hn
  by_cases hcc : t = ccType
  · subst hcc
    cases hc : commandOfCode p0 with
    | some cmd =>
      obtain rfl := commandOfCode_eq_some_iff.1 hc
      exact rxRow_commandRow hrc cmd ▸ hcommand cmd
    | none => exact rxRow_ccUnknown hrc hc ▸ hunknown hc
  · exact rxRow_otherType hrt hcc ▸ hother hrt hcc

theorem rxFrameOf_rxRow (hrc : rcType ≠ ccType) :
    rxFrameOf rcType (rxRow rcType a n t p0 rest k) = some ⟨a, n, t, p0 :: rest, k⟩ :=
  rxRow_rule hrc (P := fun f i => rxFrameOf rcType i = some f) rfl (fun _ => rfl) (fun cmd => by cases cmd <;> rfl)
    (fun _ => rfl) (fun _ _ => rfl)

theorem rowSelected_rxRow (hrc : rcType ≠ ccType) : (rxRow rcType a n t p0 rest k).rowSelected rcType = true :=
  rxRow_rule hrc (a := a) (n := n) (t := t) (p0 := p0) (rest := rest) (k := k)
    (P := fun _ i => i.rowSelected rcType = true) rfl bne_iff_ne.2 (fun cmd => by cases cmd <;> rfl)
    Option.isNone_iff_eq_none.2 (fun hrt hcc => Bool.and_eq_true_iff.2 ⟨bne_iff_ne.2 hrt, bne_iff_ne.2 hcc⟩)

/-- The row of a frame delivers the decoder's answer for the frame. -/
theorem exec_rxRow (hrc : rcType ≠ ccType) (s : State) : exec (rxRow rcType a n t p0 rest k) s =
    .next (s.deliver (decodeFrame rcType ⟨a, n, t, p0 :: rest, k⟩)) := by
  refine rxRow_rule hrc (P := fun f i => exec i s = .next (s.deliver (decodeFrame rcType f))) ?_ (fun hn => ?_)
    (fun cmd => ?_) (fun hc => ?_) (fun hrt hcc => ?_)
  · rw [decodeFrame_rcChannels]; rfl
  · rw [decodeFrame_rcBadLen hn]; rfl
  · rw [decodeFrame_command hrc, exec_commandRow]
  · rw [decodeFrame_ccUnknown hrc hc]; rfl
  · rw [decodeFrame_otherType hrt hcc]; rfl

end RxRow

/-- A row that stands for a frame is well formed when the frame is validated and the row is the one selected for it. -/
theorem wf_iff_of_rxFrameOf {rcType : Byte} {i : Instr} {f : Frame} (hf : rxFrameOf rcType i = some f) :
    i.wf rcType = true ↔ f.valid = true ∧ i.rowSelected rcType = true := by
  rw [Instr.wf, Instr.frameValid, hf, Bool.and_eq_true_iff]

/-- Settles O10: the row is that of the frame's fields. -/
theorem validatedFrameDecodesToAWellFormedRow : Obligations.ValidatedFrameDecodesToAWellFormedRow := by
  rintro rcType ⟨a, n, t, payload, k⟩ hrc hvalid
  obtain ⟨p0, rest, rfl⟩ := List.exists_cons_of_ne_nil (Frame.payload_ne_nil hvalid)
  exact ⟨_, decodeRx_wire .., (wf_iff_of_rxFrameOf (rxFrameOf_rxRow hrc)).2 ⟨hvalid, rowSelected_rxRow hrc⟩,
    rxFrameOf_rxRow hrc⟩

/-- Settles O51: a well-formed row is the one that its frame's fields select. -/
theorem receivedRowIsTheDecodersAnswer : Obligations.ReceivedRowIsTheDecodersAnswer := by
  rintro s i ⟨a, n, t, payload, k⟩ hcfg hwf hf
  have hrc : s.cfg.rcType ≠ ccType := bne_iff_ne.1 hcfg
  obtain ⟨hvalid, hsel⟩ := (wf_iff_of_rxFrameOf hf).1 hwf
  obtain ⟨p0, rest, rfl⟩ := List.exists_cons_of_ne_nil (Frame.payload_ne_nil hvalid)
  rw [← State.deliver_eq_record, ← exec_rxRow hrc, rxRow_of_rxFrameOf hrc hf hsel]

/-- Settles O49: the type and the code select the command's row, and the examples are evaluated. -/
theorem customerCommandRowsNotifyTheirCommand : Obligations.CustomerCommandRowsNotifyTheirCommand := by
  refine ⟨fun cmd a n rest k s hrc => ⟨?_, exec_commandRow cmd a n rest k s⟩, by decide⟩
  exact (decodeRx_wire ..).trans (congrArg _ (rxRow_commandRow hrc cmd))

/-- Settles O50: each of the three rows delivers a cause and no event. -/
theorem ignoredKindsNotifyNothing : Obligations.IgnoredKindsNotifyNothing :=
  ⟨fun _ _ _ _ _ => rfl, fun _ _ _ _ _ _ => rfl, fun _ _ _ _ _ _ => rfl⟩

end Sys2Proof.Machine
end

section
/-! The link tracker (43_link_tracker.md): IS_CONNECTED as arithmetic, TIMECHECK, POLL and RX_BYTE said by what they make of the
link and add to the events, and the report of every loss of the link along a run. -/

namespace Sys2Proof.Machine

/-! ### IS_CONNECTED (R112, R119, R120) -/

/-- The elapsed time as the spec writes it (R112, R119). -/
theorem toNat_elapsed (lastRx now : Timestamp) :
    (elapsed lastRx now).toNat = (now.toNat + 2 ^ 64 - lastRx.toNat) % 2 ^ 64 := by
  rw [elapsed, BitVec.toNat_sub]
  have hlt := lastRx.isLt
  congr 1
  omega

theorem State.isConnected_eq_decide (s : State) (now : Timestamp) : s.isConnected now = decide (s.linkUp = true ∧
    (now.toNat + 2 ^ 64 - s.lastRx.toNat) % 2 ^ 64 < s.cfg.connectionTimeout.toNat) := by
  rw [State.isConnected, linkAlive, BitVec.ult, toNat_elapsed, Bool.decide_and, Bool.decide_eq_true]

theorem State.isConnected_of_down {s : State} (h : s.linkUp = false) (now : Timestamp) : s.isConnected now = false := by
  rw [State.isConnected, linkAlive, h, Bool.false_and]

/-- While the link is up, `d` ticks after `last_rx` are compared as `d`. -/
theorem State.isConnected_lastRx_add {s : State} (h : s.linkUp = true) (d : Timestamp) :
    s.isConnected (s.lastRx + d) = d.ult s.cfg.connectionTimeout := by
  rw [State.isConnected, linkAlive, elapsed, h, Bool.true_and, add_sub_cancel_left]

theorem State.isConnected_of_timeout_zero {s : State} (h : s.cfg.connectionTimeout = 0) (now : Timestamp) :
    s.isConnected now = false := by
  simp [State.isConnected_eq_decide, h]

theorem State.isConnected_of_timeout_one {s : State} (h : s.cfg.connectionTimeout = 1) (hup : s.linkUp = true)
    (now : Timestamp) : s.isConnected now = decide (now = s.lastRx) := by
  have hult : (elapsed s.lastRx now).ult 1 = decide (now = s.lastRx) := by
    rw [elapsed, BitVec.ult, decide_eq_decide]
    bv_omega
  rw [State.isConnected, linkAlive, h, hup, Bool.true_and, hult]

/-- TIMECHECK(now) does not change the answer of IS_CONNECTED(now) (R113). -/
@[simp] theorem State.isConnected_timecheck (s : State) (now : Timestamp) : (s.timecheck now).isConnected now =
    s.isConnected now := by
  rw [State.isConnected, linkAlive, State.timecheck_linkUp, State.timecheck_cfg, State.timecheck_lastRx,
    State.isConnected, linkAlive, Bool.and_assoc, Bool.and_self]

/-- The IS_CONNECTED row returns the answer and writes nothing else (R112). -/
theorem exec_isConnected {s : State} {now : Timestamp} {c : Bool} (h : s.isConnected now = c) :
    exec (.isConnected now) s = .next { s with results := s.results ++ [.connected c] } := by
  subst h
  rfl

/-- Settles O39. -/
theorem noteFrameStampsTheLink : Obligations.NoteFrameStampsTheLink := fun _ _ => rfl

/-- Settles O40: the comparison in Nat, the link bit that shuts it off, and the example, 999, 1000 and 1001 ticks after
`last_rx`. -/
theorem isConnectedComparesTheModularDifference : Obligations.IsConnectedComparesTheModularDifference := by
  refine ⟨fun now s => exec_isConnected (s.isConnected_eq_decide now),
    fun now v s hdown => exec_isConnected (State.isConnected_of_down (s := { s with lastRx := v }) hdown now),
    fun s hup hrx hto => ?_⟩
  have hat (d : Timestamp) : s.isConnected (5000 + d) = d.ult 1000 := by
    rw [← hrx, ← hto, State.isConnected_lastRx_add hup]
  exact ⟨exec_isConnected (hat 999), exec_isConnected (hat 1000), exec_isConnected (hat 1001)⟩

/-! ### TIMECHECK (R113) -/

theorem State.timecheck_of_expired {s : State} {now : Timestamp} (hup : s.linkUp = true) (h : s.isConnected now = false) :
    s.timecheck now = { s with linkUp := false, events := s.events ++ [.notifyDisconnect] } := by
  simp [State.timecheck_eq, hup, h]

theorem State.timecheck_of_down {s : State} (h : s.linkUp = false) (now : Timestamp) : s.timecheck now = s :=
  State.timecheck_of_linkUp_eq (h.trans (State.isConnected_of_down h now).symm)

theorem State.timecheck_of_connected {s : State} {now : Timestamp} (h : s.isConnected now = true) : s.timecheck now = s := by
  simp [State.timecheck_eq, h]

/-- Settles O41. -/
theorem timecheckIsTheEdgeDetector : Obligations.TimecheckIsTheEdgeDetector := by
  refine fun now s => ⟨fun hup hexp => congrArg _ (State.timecheck_of_expired hup hexp), ?_, s.timecheck now, rfl, by simp⟩
  rintro (hdown | hcon)
  · exact congrArg _ (State.timecheck_of_down hdown now)
  · exact congrArg _ (State.timecheck_of_connected hcon)

/-! ### POLL (R115, R116, R134) -/

/-- The state after a POLL that finds the link lost. -/
def State.pollLost (s : State) : State :=
  { s with
    linkUp := false
    events := s.events ++ [.notifyDisconnect]
    results := s.results ++ [.connected false] }

/-- POLL returns what IS_CONNECTED was before it. -/
theorem State.poll_eq_respond (s : State) (now : Timestamp) :
    s.poll now = (s.timecheck now).respond (.connected (s.isConnected now)) := by
  rw [State.poll, State.isConnected_timecheck]

theorem State.poll_of_expired {s : State} {now : Timestamp} (hup : s.linkUp = true) (h : s.isConnected now = false) :
    s.poll now = s.pollLost := by
  rw [State.poll_eq_respond, State.timecheck_of_expired hup h, h]
  rfl

theorem State.poll_of_connected {s : State} {now : Timestamp} (h : s.isConnected now = true) :
    s.poll now = s.respond (.connected true) := by
  rw [State.poll_eq_respond, State.timecheck_of_connected h, h]

theorem State.poll_of_down {s : State} (h : s.linkUp = false) (now : Timestamp) :
    s.poll now = s.respond (.connected false) := by
  rw [State.poll_eq_respond, State.timecheck_of_down h, State.isConnected_of_down h]

/-- A run goes on from the state that its first instruction leaves. -/
theorem runAll_cons_of_exec {i : Instr} {s t : State} (h : exec i s = .next t) (is : List Instr) :
    runAll (i :: is) s = runAll is t := by
  rw [runAll, h]

/-- However often a lost link is polled, the answer is no and nothing is emitted. -/
theorem runAll_poll_of_down (nows : List Timestamp) {s : State} (h : s.linkUp = false) : runAll (nows.map .poll) s =
    .next { s with results := s.results ++ nows.map fun _ => .connected false } := by
  induction nows generalizing s with
  | nil => simp [runAll]
  | cons now nows ih =>
    have hpoll : exec (.poll now) s = .next (s.respond (.connected false)) := congrArg _ (State.poll_of_down h now)
    rw [List.map_cons, runAll_cons_of_exec hpoll, ih (s := s.respond (.connected false)) h]
    simp [State.respond]

/-- Settles O43: `timeout - 1`, `timeout` and `timeout + 1` ticks after `last_rx`, compared with the timeout. -/
theorem timeoutBoundaryFiresOnce : Obligations.TimeoutBoundaryFiresOnce := by
  refine ⟨fun s hup hne => ?_, fun s hup => ?_, fun s hup hlt => ?_, fun s nows => runAll_poll_of_down nows⟩
  · refine congrArg _ (State.poll_of_connected ?_)
    rw [add_sub_assoc, State.isConnected_lastRx_add hup, BitVec.ult, decide_eq_true_eq]
    bv_omega
  · refine congrArg _ (State.poll_of_expired hup ?_)
    rw [State.isConnected_lastRx_add hup, BitVec.ult, decide_eq_false_iff_not]
    exact Nat.lt_irrefl _
  · refine congrArg _ (State.poll_of_expired hup ?_)
    rw [add_assoc, State.isConnected_lastRx_add hup, BitVec.ult, decide_eq_false_iff_not]
    bv_omega

/-! ### RX_BYTE (R114, R118) -/

theorem framesOf_expiryEvents (s : State) (now : Timestamp) : framesOf (expiryEvents s now) = [] := by
  unfold expiryEvents
  split <;> rfl

theorem expiryEvents_of_expired {s : State} {now : Timestamp} (hup : s.linkUp = true) (h : s.isConnected now = false) :
    expiryEvents s now = [.notifyDisconnect] := if_pos ⟨hup, h⟩

/-- RX_BYTE on the link: TIMECHECK's event is the first, no other Notify.Disconnect comes, and what follows writes the link only
with a frame. -/
theorem State.rxByte_link (s : State) (b : Byte) (now : Timestamp) : ∃ evs,
    (s.rxByte b now).events = s.events ++ (expiryEvents s now ++ evs) ∧ .notifyDisconnect ∉ evs ∧
    (framesOf evs ≠ [] → (s.rxByte b now).linkUp = true) ∧
    (framesOf evs = [] → (s.rxByte b now).linkUp = s.isConnected now ∧ (s.rxByte b now).lastRx = s.lastRx) := by
  obtain ⟨evs, cs, hparse⟩ := State.parse_adds now ((s.timecheck now).append b)
  refine ⟨evs, ?_, hparse.noDisconnect, fun hframes => (hparse.link hframes).1, fun hnone => ?_⟩
  · rw [State.rxByte, hparse.events, State.append_events, State.timecheck_eq_record, List.append_assoc]
  · simpa [State.rxByte] using hparse.noLink hnone

/-- RX_BYTE where the timeout has passed: the loss is reported first, and only a frame raises the link again. -/
theorem State.rxByte_of_expired {s : State} {now : Timestamp} (hup : s.linkUp = true) (h : s.isConnected now = false)
    (b : Byte) : ∃ evs, (s.rxByte b now).events = s.events ++ .notifyDisconnect :: evs ∧ .notifyDisconnect ∉ evs ∧
      (framesOf evs = [] → (s.rxByte b now).linkUp = false ∧ (s.rxByte b now).lastRx = s.lastRx) := by
  obtain ⟨evs, hev, hno, -, hdown⟩ := s.rxByte_link b now
  rw [expiryEvents_of_expired hup h] at hev
  rw [h] at hdown
  exact ⟨evs, hev, hno, hdown⟩

/-- Settles O44: with timeout 0 every time is past the timeout, so every timed operation that finds the link up loses it. -/
theorem degenerateTimeouts : Obligations.DegenerateTimeouts := by
  have hnoted (now now2 : Timestamp) (s : State) (h0 : s.cfg.connectionTimeout = 0) :
      (s.noteFrame now).isConnected now2 = false := State.isConnected_of_timeout_zero (s := s.noteFrame now) h0 now2
  refine ⟨fun now s h0 => ?_, fun now now2 s h0 => ?_, fun now now2 b s h0 => ?_, fun now b s h0 => ?_,
    fun now s h1 hup => ?_⟩
  · exact exec_isConnected (State.isConnected_of_timeout_zero h0 now)
  · exact congrArg _ (State.poll_of_expired rfl (hnoted now now2 s h0))
  · obtain ⟨evs, hev, hno, hdown⟩ := State.rxByte_of_expired rfl (hnoted now now2 s h0) b
    exact ⟨_, evs, rfl, hev, hno, hdown⟩
  · obtain ⟨evs, hev, -, hup, -⟩ := s.rxByte_link b now
    refine ⟨_, expiryEvents s now ++ evs, rfl, hev, fun hframes => ?_⟩
    rw [framesOf_append, framesOf_expiryEvents, List.nil_append] at hframes
    have hexp (now2 : Timestamp) : (s.rxByte b now).isConnected now2 = false :=
      State.isConnected_of_timeout_zero (by rwa [State.rxByte_cfg]) now2
    refine ⟨hup hframes, fun now2 => congrArg _ (State.poll_of_expired (hup hframes) (hexp now2)), fun b2 now2 => ?_⟩
    obtain ⟨evs2, hev2, hno2, hdown2⟩ := State.rxByte_of_expired (hup hframes) (hexp now2) b2
    exact ⟨_, evs2, rfl, hev2, hno2, fun hnone => (hdown2 hnone).1⟩
  · exact exec_isConnected (State.isConnected_of_timeout_one h1 hup now)

/-! ### Runs of events (R113) -/

/-- What is justified from a link that is down is justified from one that is up. -/
theorem disconnectsJustified_mono {up up' : Bool} (hup : up = true → up' = true) {evs : List Event}
    (h : disconnectsJustified up evs = true) : disconnectsJustified up' evs = true := by
  induction evs with
  | nil => rfl
  | cons e evs ih =>
    cases e with
    | evFrame => exact h
    | notifyDisconnect =>
      obtain ⟨hu, hevs⟩ := Bool.and_eq_true_iff.1 h
      exact Bool.and_eq_true_iff.2 ⟨hup hu, hevs⟩
    | notifyChannels | notifyCommand | txByte => exact ih h

/-- Events without Notify.Disconnect only raise the link, and only with a frame. -/
theorem disconnectsJustified_append {evs : List Event} (h : .notifyDisconnect ∉ evs) (up : Bool) (later : List Event) :
    disconnectsJustified up (evs ++ later) = disconnectsJustified (up || !(framesOf evs).isEmpty) later := by
  induction evs generalizing up with
  | nil => simp [framesOf]
  | cons e evs ih =>
    have hevs := ih fun hmem => h (List.mem_cons_of_mem e hmem)
    cases e with
    | evFrame => exact (hevs true).trans (by simp [framesOf])
    | notifyDisconnect => exact absurd List.mem_cons_self h
    | notifyChannels | notifyCommand | txByte => exact hevs up

/-- From `s` to `t` the loss of the link is reported: the events added take the link from where `s` has it to where `t` has it,
so that what is justified after them stays justified with them in front; and, if `noReset` holds, the link is lost only with a
Notify.Disconnect. -/
def LinkReported (noReset : Prop) (s t : State) : Prop :=
  ∃ evs, t.events = s.events ++ evs ∧
    (∀ later, disconnectsJustified t.linkUp later = true → disconnectsJustified s.linkUp (evs ++ later) = true) ∧
    (noReset → s.linkUp = true → t.linkUp = false → .notifyDisconnect ∈ evs)

section LinkReported
variable {noReset : Prop} {s t u : State}

theorem LinkReported.trans (h : LinkReported noReset s t) (h' : LinkReported noReset t u) : LinkReported noReset s u := by
  obtain ⟨evs, hev, hjust, hlost⟩ := h
  obtain ⟨evs', hev', hjust', hlost'⟩ := h'
  refine ⟨evs ++ evs', by rw [hev', hev, List.append_assoc], fun later hlater => ?_, fun hno hs hu => ?_⟩
  · rw [List.append_assoc]
    exact hjust _ (hjust' _ hlater)
  · rw [List.mem_append]
    cases ht : t.linkUp with
    | true => exact .inr (hlost' hno ht hu)
    | false => exact .inl (hlost hno hs ht)

/-- What emits no Notify.Disconnect leaves the link, or accepts a frame and leaves it up. -/
theorem LinkReported.of_no_disconnect {evs : List Event} (hev : t.events = s.events ++ evs) (hno : .notifyDisconnect ∉ evs)
    (hlink : t.linkUp = s.linkUp ∨ t.linkUp = true ∧ framesOf evs ≠ []) : LinkReported noReset s t := by
  refine ⟨evs, hev, fun later hlater => ?_, fun _ hs ht => ?_⟩
  · rw [disconnectsJustified_append hno]
    refine disconnectsJustified_mono (fun ht => ?_) hlater
    rcases hlink with hkept | ⟨-, hframes⟩
    · simp [← hkept, ht]
    · simp [hframes]
  · rcases hlink with hkept | ⟨hup, -⟩
    · exact absurd (hs.symm.trans (hkept.symm.trans ht)) (by decide)
    · exact absurd (hup.symm.trans ht) (by decide)

/-- What adds no event and leaves the link has nothing to report. -/
theorem LinkReported.of_silent (hev : t.events = s.events) (hlink : t.linkUp = s.linkUp) : LinkReported noReset s t :=
  .of_no_disconnect (evs := []) (by rw [hev, List.append_nil]) List.not_mem_nil (.inl hlink)

theorem LinkReported.refl (s : State) : LinkReported noReset s s := .of_silent rfl rfl

theorem LinkReported.timecheck (s : State) (now : Timestamp) : LinkReported noReset s (s.timecheck now) := by
  cases hcon : s.isConnected now with
  | true =>
    rw [State.timecheck_of_connected hcon]
    exact .refl s
  | false =>
    cases hup : s.linkUp with
    | true =>
      rw [State.timecheck_of_expired hup hcon]
      exact ⟨[.notifyDisconnect], rfl, fun _ hlater => Bool.and_eq_true_iff.2 ⟨hup, hlater⟩,
        fun _ _ _ => List.mem_cons_self⟩
    | false =>
      rw [State.timecheck_of_down hup]
      exact .refl s

theorem LinkReported.poll (s : State) (now : Timestamp) : LinkReported noReset s (s.poll now) :=
  (LinkReported.timecheck s now).trans (.of_silent rfl rfl)

theorem LinkReported.parse (s : State) (now : Timestamp) : LinkReported noReset s (s.parse now) := by
  obtain ⟨evs, cs, hparse⟩ := s.parse_adds now
  refine .of_no_disconnect hparse.events hparse.noDisconnect ?_
  by_cases hframes : framesOf evs = []
  · exact .inl (hparse.noLink hframes).1
  · exact .inr ⟨(hparse.link hframes).1, hframes⟩

theorem LinkReported.rxByte (s : State) (b : Byte) (now : Timestamp) : LinkReported noReset s (s.rxByte b now) :=
  (LinkReported.timecheck s now).trans
    ((LinkReported.of_silent (State.append_events _ b) (State.append_linkUp _ b)).trans (.parse _ now))

theorem LinkReported.feed (bytes : List Byte) (now : Timestamp) (s : State) : LinkReported noReset s (s.feed bytes now) := by
  induction bytes generalizing s with
  | nil => exact .refl s
  | cons b bytes ih => exact (LinkReported.rxByte s b now).trans (ih (s.rxByte b now))

theorem LinkReported.deliver (s : State) (d : Except Cause DecodedEvent) : LinkReported noReset s (s.deliver d) := by
  rw [State.deliver_eq_record]
  refine .of_no_disconnect rfl ?_ (.inl rfl)
  rcases d with c | (ch | cmd) <;> simp [notificationOf, DecodedEvent.event]

theorem LinkReported.transmit (s : State) (cmd : CustomerCommand) : LinkReported noReset s (s.transmit cmd) :=
  .of_no_disconnect (s.transmit_events cmd) (by simp) (.inl rfl)

theorem LinkReported.encode (s : State) (c : Byte) : LinkReported noReset s (s.encode c) := by
  cases hc : commandOfCode c with
  | some cmd => exact s.encode_of_command hc ▸ .transmit s cmd
  | none => exact s.encode_of_unlisted hc ▸ .of_silent rfl rfl

/-- RESET takes the link down silently; a link that is down justifies no more than before. -/
theorem LinkReported.resetEngine (h : ¬ noReset) (s : State) : LinkReported noReset s s.resetEngine :=
  ⟨[], (List.append_nil _).symm, fun _ => disconnectsJustified_mono (fun hdown => Bool.noConfusion hdown),
    fun hno => absurd hno h⟩

/-- Every instruction but a lone micro-step reports the loss of the link, RESET where no report is asked. -/
theorem Effect.linkReported {i : Instr} {f : State → State} (hf : Effect i f) (hmicro : i.format ≠ .micro)
    (hreset : noReset → i ≠ .reset) (s : State) : LinkReported noReset s (f s) := by
  cases hf with
  | idle => exact .refl s
  | rxByte b now => exact .rxByte s b now
  | feed bytes now => exact .feed bytes now s
  | poll now => exact .poll s now
  | setUart | crc => exact .of_silent rfl rfl
  | encode c => exact .encode s c
  | reset => exact .resetEngine (fun hno => hreset hno rfl) s
  | deliver _ d => exact .deliver s d
  | transmit _ cmd => exact .transmit s cmd
  | append | accept | noteFrame | timecheck | isConnected => exact absurd rfl hmicro
  | discardWhere hi =>
    have hformat : ∀ j ∈ [Instr.dropOvf, .dropAddr, .dropLen, .dropCrc], j.format = .micro := by decide
    exact absurd (hformat i hi) hmicro

/-- A run reports the loss of the link, by induction over its instructions. -/
theorem runAll_linkReported {is : List Instr} (hmicro : ∀ i ∈ is, i.format ≠ .micro) (hreset : noReset → .reset ∉ is)
    (s : State) : ∃ t, runAll is s = .next t ∧ LinkReported noReset s t := by
  induction is generalizing s with
  | nil => exact ⟨s, rfl, .refl s⟩
  | cons i is ih =>
    obtain ⟨f, hf, hexec⟩ := exec_effect i
    rw [List.forall_mem_cons] at hmicro
    obtain ⟨hi, his⟩ := hmicro
    have hfirst := hf.linkReported hi (fun hno heq => hreset hno (heq ▸ List.mem_cons_self)) s
    obtain ⟨t, hrun, hrest⟩ := ih his (fun hno hmem => hreset hno (List.mem_cons_of_mem i hmem)) (f s)
    exact ⟨t, (runAll_cons_of_exec (hexec s) is).trans hrun, hfirst.trans hrest⟩

end LinkReported

/-- Settles O45: the run's report, with nothing after it. -/
theorem oneDisconnectPerLoss : Obligations.OneDisconnectPerLoss := by
  intro is s hmicro
  obtain ⟨t, hrun, evs, hev, hjust, hlost⟩ := runAll_linkReported (noReset := .reset ∉ is) hmicro id s
  exact ⟨t, evs, hrun, hev, List.append_nil evs ▸ hjust [] rfl, hlost⟩

end Sys2Proof.Machine
end

section
/-! The command encoder (44_encoder.md): ENCODE of a listed code transmits the wire of the command's frame, whose crc is one table
read; the frame is a validated one, so the reassembler and the decoder give its command back. -/

namespace Sys2Proof.Machine

/-! ### ENCODE (R122, R125) -/

theorem exec_encode_code (cmd : CustomerCommand) (s : State) : exec (.encode cmd.code) s = .next (s.transmit cmd) :=
  congrArg _ (s.encode_of_command (commandOfCode_eq_some_iff.2 rfl))

/-- What is transmitted for a command is its frame's wire: the length byte counts `type..crc`, three bytes (R122). -/
theorem State.transmit_eq_wire (s : State) (cmd : CustomerCommand) :
    s.transmit cmd = { s with events := s.events ++ (commandFrame cmd).wire.map .txByte } := rfl

theorem exec_encode_wire (cmd : CustomerCommand) (s : State) :
    exec (.encode cmd.code) s = .next { s with events := s.events ++ (commandFrame cmd).wire.map .txByte } :=
  (exec_encode_code cmd s).trans (congrArg _ (s.transmit_eq_wire cmd))

/-- Settles O52: the wire of the command's frame, written out. -/
theorem encodeOfAListedCodeSendsFiveBytes : Obligations.EncodeOfAListedCodeSendsFiveBytes := exec_encode_wire

/-- The listed codes are 0x01 .. 0x08 (R53). -/
theorem CustomerCommand.code_bounds (cmd : CustomerCommand) : 0 < cmd.code.toNat ∧ cmd.code.toNat ≤ 8 := by
  cases cmd <;> decide

/-- Settles O53: the codes given lie outside the listed range, so they name no command. -/
theorem encodeRefusesUnlistedCodes : Obligations.EncodeRefusesUnlistedCodes := by
  intro c s hc
  refine congrArg _ (s.encode_of_unlisted (commandOfCode_eq_none_iff.2 ?_))
  rintro cmd rfl
  obtain ⟨hpos, hle⟩ := cmd.code_bounds
  rcases hc with hzero | hnine
  · exact hpos.ne' (congrArg BitVec.toNat hzero)
  · exact absurd hnine (by omega)

/-! ### The eight transmitted frames (R193 to R200) -/

/-- The crc of a command's frame is one table read: `type` takes the accumulator to `T[0x31] = 0x23` (R67, R68). -/
theorem crc8_ccType_code (cmd : CustomerCommand) : crc8 [0x31, cmd.code] = romRead (0x23 ^^^ cmd.code) := by
  have htype : crc8 [0x31] = 0x23 := by decide
  rw [← htype]
  exact crc8_append_singleton [0x31] cmd.code

/-- A row that transmits a command does what ENCODE of the command's code does, with the crc read at `i` (R193 to R200). -/
theorem exec_encode_and_row {row : Instr} {cmd : CustomerCommand} {i e : Byte}
    (hrow : ∀ s, exec row s = .next (s.transmit cmd)) (hi : 0x23 ^^^ cmd.code = i) (he : romRead i = e) (s : State) :
    exec (.encode cmd.code) s =
      .next { s with events := s.events ++ [0xEE, 0x03, 0x31, cmd.code, e].map .txByte } ∧
    exec row s = exec (.encode cmd.code) s ∧ romRead i = e := by
  have hcrc : crc8 [0x31, cmd.code] = e := by rw [crc8_ccType_code, hi, he]
  refine ⟨?_, (hrow s).trans (exec_encode_code cmd s).symm, he⟩
  rw [← hcrc]
  exact exec_encode_wire cmd s

/-- Settles O54: each row transmits its command, and its crc is the table entry named. -/
theorem eightTransmittedFrames : Obligations.EightTransmittedFrames := fun s =>
  ⟨exec_encode_and_row (cmd := .enterWifi) (fun _ => rfl) rfl rfl s,
    exec_encode_and_row (cmd := .enterBind) (fun _ => rfl) rfl rfl s,
    exec_encode_and_row (cmd := .receiveData) (fun _ => rfl) rfl rfl s,
    exec_encode_and_row (cmd := .setStatus) (fun _ => rfl) rfl rfl s,
    exec_encode_and_row (cmd := .reconnect) (fun _ => rfl) rfl rfl s,
    exec_encode_and_row (cmd := .disconnect) (fun _ => rfl) rfl rfl s,
    exec_encode_and_row (cmd := .queryBinding) (fun _ => rfl) rfl rfl s,
    exec_encode_and_row (cmd := .queryUartLinked) (fun _ => rfl) rfl rfl s⟩

/-! ### The loop back (R124) -/

/-- Address 0xEE is recognized, length 3 is legal and counts one payload byte, and the crc is computed (R124). -/
theorem commandFrame_valid (cmd : CustomerCommand) : (commandFrame cmd).valid = true :=
  (Frame.valid_iff _).2 ⟨rfl, by simp [commandFrame], rfl, rfl⟩

/-- Settles O55: the frame sent is validated, so fed whole it is taken (O33), and its payload decodes to its command. -/
theorem encodedFrameLoopsBack : Obligations.EncodedFrameLoopsBack := by
  intro cmd s now hbuf hrc
  have hvalid := commandFrame_valid cmd
  have hdecode : decodeFrame s.cfg.rcType (commandFrame cmd) = .ok (.command cmd) := decodeFrame_command hrc cmd
  refine ⟨hvalid, exec_encode_wire cmd s, ?_⟩
  rw [fedFrameIsAcceptedAndDelivered s _ now hbuf hvalid, hdecode]
  simp [notificationOf, causeOf, DecodedEvent.event]

end Sys2Proof.Machine
end

section
/-! RX_BYTE (45_engine_ops.md R133, 41_reassembler.md R92): `PARSE()` as a run of the table's own rows, and how many events it
can add, from what one accepted frame takes from the buffer and adds to the events. -/

namespace Sys2Proof.Machine

/-! ### RX_BYTE as the table's rows (R77, R96, R133) -/

/-- The row of a frame's fields delivers the decoder's answer also where `RC_TYPE` is 0x31: row and decoder both ask for
`RC_TYPE` first (R61, R96). -/
theorem exec_rxRow_of_any_rcType (rcType a n t p0 : Byte) (rest : List Byte) (k : Byte) (s : State) :
    exec (rxRow rcType a n t p0 rest k) s = .next (s.deliver (decodeFrame rcType ⟨a, n, t, p0 :: rest, k⟩)) := by
  by_cases hrc : rcType = ccType
  · by_cases hrt : t = rcType
    · subst hrt
      by_cases hn : n = rcLength
      · subst hn
        rw [rxRow_rcChannels, decodeFrame_rcChannels]
        rfl
      · rw [rxRow_rcBadLen hn, decodeFrame_rcBadLen hn]
        rfl
    · have hcc : t ≠ ccType := hrc ▸ hrt
      rw [rxRow_otherType hrt hcc, decodeFrame_otherType hrt hcc]
      rfl
  · exact exec_rxRow hrc s

/-- The bytes of a validated frame decode to a row that delivers the decoder's answer for the frame. -/
theorem decode_wire_of_valid {f : Frame} (hf : f.valid = true) (rcType : Byte) :
    ∃ i, decode rcType (.rxframe f.wire) = .ok i ∧ ∀ s, exec i s = .next (s.deliver (decodeFrame rcType f)) := by
  obtain ⟨a, n, t, payload, k⟩ := f
  obtain ⟨p0, rest, rfl⟩ := List.exists_cons_of_ne_nil (Frame.payload_ne_nil hf)
  exact ⟨_, decodeRx_wire .., exec_rxRow_of_any_rcType rcType a n t p0 rest k⟩

/-- Where the loop accepts, ACCEPT, NOTE_FRAME and the row of the frame's bytes come before the rest of the run (R133). -/
theorem ParseRun.of_takeFrame {now : Timestamp} {s t : State} (hturn : parseTurn s.buf = .accept)
    (hrest : ParseRun now (s.takeFrame now) t) : ParseRun now s t := by
  obtain ⟨f, -, hf, hframe, -⟩ := parseTurn_accept hturn
  obtain ⟨i, hdecode, hexec⟩ := decode_wire_of_valid (hframe ▸ hf) s.cfg.rcType
  exact .accept hturn (congrArg Host.Outcome.next (State.whenTurn_of_eq hturn _)) rfl hdecode (hexec _) hrest

/-- `PARSE()` is such a run, by its proof rule: each turn is the micro-step that its condition selects. -/
theorem State.parseRun_parse (s : State) (now : Timestamp) : ParseRun now s (s.parse now) := by
  refine State.parse_rule (Q := ParseRun now) (fun s hwait => ?_) (fun s t hturn hrest => ?_) (fun s t hturn hrest => ?_)
    (fun s t hturn hrest => ?_) (fun s t => ParseRun.of_takeFrame) s
  · obtain ⟨hhdr, hbody⟩ := waitsWriteNothing s
    exact hwait.elim (.waitHdr · hhdr) (.waitBody · hbody)
  · exact .dropAddr hturn (congrArg Host.Outcome.next (State.whenTurn_of_eq hturn _)) hrest
  · exact .dropLen hturn (congrArg Host.Outcome.next (State.whenTurn_of_eq hturn _)) hrest
  · exact .dropCrc hturn (congrArg Host.Outcome.next (State.whenTurn_of_eq hturn _)) hrest

/-- Settles O30: TIMECHECK and APPEND are the first two parts of RX_BYTE, and `PARSE()` is the run. -/
theorem rxByteIsItsMicroSteps : Obligations.RxByteIsItsMicroSteps :=
  fun _ now _ => ⟨_, _, _, rfl, rfl, State.parseRun_parse _ now, rfl⟩

/-! ### The number of events (R92, R133) -/

theorem length_notificationOf_le (d : Except Cause DecodedEvent) : (notificationOf d).length ≤ 1 := by
  rcases d with c | (ch | cmd) <;> simp [notificationOf]

theorem length_expiryEvents_le (s : State) (now : Timestamp) : (expiryEvents s now).length ≤ 1 := by
  unfold expiryEvents
  split <;> simp

theorem framesOf_evFrame_cons (f : Frame) (evs : List Event) : framesOf (.evFrame f :: evs) = f :: framesOf evs := rfl

theorem State.takeFrame_events (s : State) (now : Timestamp) : (s.takeFrame now).events =
    s.events ++ .evFrame (frameAt s.buf) :: notificationOf (decodeFrame s.cfg.rcType (frameAt s.buf)) := by
  simp [State.takeFrame, State.notify, State.deliver_eq_record]

/-- From `s` to `t` at most two events are added for each frame, and each frame takes at least five of the bytes that the buffer
of `s` holds. -/
def State.AddsFewEvents (s t : State) : Prop :=
  ∃ evs, t.events = s.events ++ evs ∧ evs.length ≤ 2 * (framesOf evs).length ∧ 5 * (framesOf evs).length ≤ s.cnt

theorem State.AddsFewEvents.refl (s : State) : s.AddsFewEvents s := ⟨[], by simp [framesOf]⟩

theorem State.AddsFewEvents.of_discard {s t : State} {c : Cause} (h : (s.discard c).AddsFewEvents t) :
    s.AddsFewEvents t := by
  obtain ⟨evs, hev, htwo, hfive⟩ := h
  have hcnt : (s.discard c).cnt ≤ s.cnt := by simp [State.cnt]
  exact ⟨evs, hev, htwo, hfive.trans hcnt⟩

/-- An accepted frame is EvFrame and at most one notification (R133), and has at least five bytes (R48). -/
theorem State.AddsFewEvents.of_takeFrame {s t : State} {now : Timestamp} (hturn : parseTurn s.buf = .accept)
    (h : (s.takeFrame now).AddsFewEvents t) : s.AddsFewEvents t := by
  obtain ⟨evs, hev, htwo, hfive⟩ := h
  rw [State.takeFrame_events, List.append_assoc] at hev
  have hcnt := State.takeFrame_cnt_le now hturn
  have hnote := length_notificationOf_le (decodeFrame s.cfg.rcType (frameAt s.buf))
  have hframes : framesOf (.evFrame (frameAt s.buf) :: notificationOf (decodeFrame s.cfg.rcType (frameAt s.buf)) ++ evs) =
      frameAt s.buf :: framesOf evs := by
    rw [framesOf_append, framesOf_evFrame_cons, framesOf_notificationOf, List.singleton_append]
  refine ⟨_, hev, ?_, ?_⟩
  · rw [hframes, List.length_append, List.length_cons, List.length_cons]
    omega
  · rw [hframes, List.length_cons]
    omega

/-- `PARSE()` does so, by its proof rule. -/
theorem State.addsFewEvents_parse (s : State) (now : Timestamp) : s.AddsFewEvents (s.parse now) :=
  State.parse_rule (Q := State.AddsFewEvents) (fun s _ => .refl s) (fun _ _ _ => .of_discard) (fun _ _ _ => .of_discard)
    (fun _ _ _ => .of_discard) (fun _ _ => .of_takeFrame) s

/-- Settles O31: TIMECHECK adds at most one event, and the at most 64 bytes that APPEND leaves hold at most 12 frames of five
bytes or more. -/
theorem rxByteAddsAtMostTwentyFiveEvents : Obligations.RxByteAddsAtMostTwentyFiveEvents := by
  intro b now s hcnt
  let s2 := (s.timecheck now).append b
  obtain ⟨evs, hev, htwo, hfive⟩ := s2.addsFewEvents_parse now
  obtain ⟨cs, -, -, -, hcnt2⟩ := (s.timecheck now).append_adds b
  have hcntT : (s.timecheck now).cnt = s.cnt := congrArg List.length (s.timecheck_buf now)
  have hcap : s2.cnt ≤ 64 := by
    show ((s.timecheck now).append b).cnt ≤ 64
    omega
  have hexp := length_expiryEvents_le s now
  refine ⟨s.rxByte b now, expiryEvents s now ++ evs, rfl, ?_, ?_, ?_⟩
  · rw [State.rxByte, hev, State.append_events, State.timecheck_eq_record, List.append_assoc]
  · rw [framesOf_append, framesOf_expiryEvents, List.nil_append]
    omega
  · rw [List.length_append]
    omega

end Sys2Proof.Machine
end

section
/-! What the instructions write and leave (45_engine_ops.md R138), and two consequences of what they read and write: ENCODE
commutes with all of them (R140), and FEED is its expansion, also as operation words in `pending` (R136). -/

namespace Sys2Proof.Machine

/-! ### The elements of the state (R138) -/

section Fields
variable (s : State)

@[simp] theorem State.encode_cfg (c : Byte) : (s.encode c).cfg = s.cfg := by
  unfold State.encode; split <;> rfl

@[simp] theorem State.encode_linkUp (c : Byte) : (s.encode c).linkUp = s.linkUp := by
  unfold State.encode; split <;> rfl

@[simp] theorem State.encode_uartConnected (c : Byte) : (s.encode c).uartConnected = s.uartConnected := by
  unfold State.encode; split <;> rfl

@[simp] theorem State.encode_lastRx (c : Byte) : (s.encode c).lastRx = s.lastRx := by
  unfold State.encode; split <;> rfl

@[simp] theorem State.encode_results (c : Byte) : (s.encode c).results = s.results := by
  unfold State.encode; split <;> rfl

@[simp] theorem State.poll_cfg (now : Timestamp) : (s.poll now).cfg = s.cfg := by simp [State.poll]

@[simp] theorem State.poll_uartConnected (now : Timestamp) : (s.poll now).uartConnected = s.uartConnected := by
  simp [State.poll]

@[simp] theorem State.poll_lastRx (now : Timestamp) : (s.poll now).lastRx = s.lastRx := by simp [State.poll]

@[simp] theorem State.feed_cfg (bytes : List Byte) (now : Timestamp) : (s.feed bytes now).cfg = s.cfg :=
  s.feed_keeps State.cfg now (fun s b => s.rxByte_cfg b now) bytes

@[simp] theorem State.feed_uartConnected (bytes : List Byte) (now : Timestamp) :
    (s.feed bytes now).uartConnected = s.uartConnected :=
  s.feed_keeps State.uartConnected now (fun s b => s.rxByte_uartConnected b now) bytes

@[simp] theorem State.feed_results (bytes : List Byte) (now : Timestamp) : (s.feed bytes now).results = s.results :=
  s.feed_keeps State.results now (fun s b => s.rxByte_results b now) bytes

end Fields

section Writes
variable {i : Instr} {f : State → State}

/-- No instruction writes the configuration (R17). -/
theorem Effect.cfg (hf : Effect i f) (s : State) : (f s).cfg = s.cfg := by
  cases hf with
  | discardWhere | accept => dsimp only [State.whenTurn]; split <;> rfl
  | idle | setUart => rfl
  | _ => simp

/-- `uart_connected` is written by SET_UART and RESET (R14). -/
theorem Effect.uartConnected (hf : Effect i f) (hreset : i ≠ .reset) (huart : ∀ v, i ≠ .setUart v) (s : State) :
    (f s).uartConnected = s.uartConnected := by
  cases hf with
  | reset => exact absurd rfl hreset
  | setUart v => exact absurd rfl (huart v)
  | discardWhere | accept => dsimp only [State.whenTurn]; split <;> rfl
  | idle => rfl
  | _ => simp

/-- `last_rx` is written by RESET and by what runs NOTE_FRAME (R15). -/
theorem Effect.lastRx (hf : Effect i f) (hreset : i ≠ .reset) (hrx : ∀ b now, i ≠ .rxByte b now)
    (hfeed : ∀ bs now, i ≠ .feed bs now) (hnote : ∀ now, i ≠ .noteFrame now) (s : State) : (f s).lastRx = s.lastRx := by
  cases hf with
  | reset => exact absurd rfl hreset
  | rxByte b now => exact absurd rfl (hrx b now)
  | feed bs now => exact absurd rfl (hfeed bs now)
  | noteFrame now => exact absurd rfl (hnote now)
  | discardWhere | accept => dsimp only [State.whenTurn]; split <;> rfl
  | idle | setUart => rfl
  | _ => simp

/-- `link_up` is written by RESET and by what runs NOTE_FRAME or TIMECHECK (R13). -/
theorem Effect.linkUp (hf : Effect i f) (hreset : i ≠ .reset) (hrx : ∀ b now, i ≠ .rxByte b now)
    (hfeed : ∀ bs now, i ≠ .feed bs now) (hnote : ∀ now, i ≠ .noteFrame now) (hpoll : ∀ now, i ≠ .poll now)
    (hcheck : ∀ now, i ≠ .timecheck now) (s : State) : (f s).linkUp = s.linkUp := by
  cases hf with
  | reset => exact absurd rfl hreset
  | rxByte b now => exact absurd rfl (hrx b now)
  | feed bs now => exact absurd rfl (hfeed bs now)
  | noteFrame now => exact absurd rfl (hnote now)
  | poll now => exact absurd rfl (hpoll now)
  | timecheck now => exact absurd rfl (hcheck now)
  | discardWhere | accept => dsimp only [State.whenTurn]; split <;> rfl
  | idle | setUart => rfl
  | _ => simp

/-- The buffer is written by RESET, RX_BYTE, FEED, APPEND, ACCEPT and the discards (R11, R12). -/
theorem Effect.buf (hf : Effect i f) (hreset : i ≠ .reset) (hrx : ∀ b now, i ≠ .rxByte b now)
    (hfeed : ∀ bs now, i ≠ .feed bs now) (happend : ∀ b, i ≠ .append b) (haccept : i ≠ .accept)
    (hdrop : i ∉ [Instr.dropOvf, .dropAddr, .dropLen, .dropCrc]) (s : State) : (f s).buf = s.buf := by
  cases hf with
  | reset => exact absurd rfl hreset
  | rxByte b now => exact absurd rfl (hrx b now)
  | feed bs now => exact absurd rfl (hfeed bs now)
  | append b => exact absurd rfl (happend b)
  | accept => exact absurd rfl haccept
  | discardWhere hi => exact absurd hi hdrop
  | idle | setUart => rfl
  | _ => simp

/-- Values are returned by POLL, IS_CONNECTED and the CRC functions (R68 to R70, R134). -/
theorem Effect.results (hf : Effect i f) (hpoll : ∀ now, i ≠ .poll now) (hcon : ∀ now, i ≠ .isConnected now)
    (hfunc : i.format ≠ .func) (s : State) : (f s).results = s.results := by
  cases hf with
  | poll now => exact absurd rfl (hpoll now)
  | isConnected now => exact absurd rfl (hcon now)
  | crc hi => exact absurd hi hfunc
  | discardWhere | accept => dsimp only [State.whenTurn]; split <;> rfl
  | idle | setUart => rfl
  | _ => simp

/-- The three CRC functions are the rows of format FUNC (R61). -/
theorem format_ne_func (hstep : ∀ acc b, i ≠ .crc8Step acc b) (hcompute : ∀ m, i ≠ .crc8Compute m)
    (hverify : ∀ m e, i ≠ .crc8Verify m e) : i.format ≠ .func := by
  cases i with
  | crc8Step acc b => exact absurd rfl (hstep acc b)
  | crc8Compute m => exact absurd rfl (hcompute m)
  | crc8Verify m e => exact absurd rfl (hverify m e)
  | _ => exact Format.noConfusion

theorem State.agrees.refl (s : State) : s.agrees s := ⟨rfl, rfl, rfl, fun _ => rfl, rfl⟩

/-- Every instruction only adds to the records (R131, R178). -/
theorem Effect.adds (hf : Effect i f) (s : State) : ∃ evs rs cs, s.Adds (f s) evs rs cs := by
  obtain ⟨-, -, evs, rs, cs, hadds, -⟩ := hf.readsOnlyAgreed s s (.refl s)
  exact ⟨evs, rs, cs, hadds⟩

end Writes

/-- Settles O57, element by element, each by the kinds of effect. -/
theorem onlyTheNamedInstructionsWrite : Obligations.OnlyTheNamedInstructionsWrite := by
  intro i s t hexec
  obtain ⟨f, hf, he⟩ := exec_effect i
  obtain rfl : f s = t := by
    rw [he] at hexec
    injection hexec
  obtain ⟨evs, rs, cs, hev, hrs, hcs⟩ := hf.adds s
  refine ⟨hf.cfg s, hf.pending s, fun hreset huart => hf.uartConnected hreset huart s,
    fun hreset hrx hfeed hnote => hf.lastRx hreset hrx hfeed hnote s,
    fun hreset hrx hfeed hnote hpoll hcheck => hf.linkUp hreset hrx hfeed hnote hpoll hcheck s,
    fun hreset hrx hfeed happend hovf haddr hlen hcrc haccept k => ?_,
    fun hpoll hcon hstep hcompute hverify => hf.results hpoll hcon (format_ne_func hstep hcompute hverify) s,
    ⟨evs, hev⟩, ⟨rs, hrs⟩, ⟨cs, hcs⟩⟩
  have hbuf := hf.buf hreset hrx hfeed happend haccept (by simp [hovf, haddr, hlen, hcrc]) s
  rw [State.readCell, State.readCell, hbuf]

/-! ### The same instruction in two states that differ in the records -/

/-- What an instruction does to `uart_connected` depends on that flag alone. -/
theorem Effect.uartConnected_congr {i : Instr} {f : State → State} (hf : Effect i f) {s1 s2 : State}
    (h : s1.uartConnected = s2.uartConnected) : (f s1).uartConnected = (f s2).uartConnected := by
  cases hf with
  | reset | setUart => rfl
  | discardWhere | accept => dsimp only [State.whenTurn]; split <;> split <;> exact h
  | idle => exact h
  | _ => simpa using h

@[ext] theorem State.ext {s t : State} (hcfg : s.cfg = t.cfg) (hbuf : s.buf = t.buf) (hlinkUp : s.linkUp = t.linkUp)
    (huartConnected : s.uartConnected = t.uartConnected) (hlastRx : s.lastRx = t.lastRx) (hdraws : s.draws = t.draws)
    (hpending : s.pending = t.pending) (hevents : s.events = t.events) (hresults : s.results = t.results)
    (htrace : s.trace = t.trace) : s = t := by
  cases s
  cases t
  congr

/-- From two states that differ only in what is pending and in the records, an instruction goes to two such states, and adds the
same records to both. -/
theorem Effect.apply_records {i : Instr} {f : State → State} (hf : Effect i f) (s : State) (pending : List Issue)
    (events : List Event) (results : List Result) (trace : List Cause) : ∃ evs rs cs, s.Adds (f s) evs rs cs ∧
      f { s with pending := pending, events := events, results := results, trace := trace } =
        { f s with
          pending := pending
          events := events ++ evs
          results := results ++ rs
          trace := trace ++ cs } := by
  let s' : State := { s with pending := pending, events := events, results := results, trace := trace }
  have hag : s.agrees s' := .refl s
  obtain ⟨⟨hcfg, hbuf, hlink, -, hdraws⟩, hrx, evs, rs, cs, hadds, hev, hrs, hcs⟩ := hf.readsOnlyAgreed s s' hag
  have huart : (f s).uartConnected = (f s').uartConnected := hf.uartConnected_congr rfl
  have hpending : (f s').pending = pending := hf.pending s'
  refine ⟨evs, rs, cs, hadds, ?_⟩
  exact State.ext hcfg.symm hbuf.symm hlink.symm huart.symm (hrx rfl).symm hdraws.symm hpending hev hrs hcs

/-! ### ENCODE beside another instruction (R140) -/

/-- ENCODE adds events and causes that depend on the code alone. -/
theorem State.encode_eq_record (c : Byte) : ∃ tx cs, ∀ s : State, s.encode c =
    { s with events := s.events ++ tx, trace := s.trace ++ cs } := by
  cases hc : commandOfCode c with
  | some cmd => exact ⟨(encodeCommand cmd).map .txByte, [], fun s => by simp [s.encode_of_command hc, State.transmit]⟩
  | none => exact ⟨[], [.encodeRefused c], fun s => by simp [s.encode_of_unlisted hc, State.raise]⟩

/-- Settles O56: what ENCODE adds depends on no state, and what the other instruction does and adds depends on no record. -/
theorem encodeCommutesWithEveryInstruction : Obligations.EncodeCommutesWithEveryInstruction := by
  intro c i s
  obtain ⟨f, hf, he⟩ := exec_effect i
  obtain ⟨tx, ccs, henc⟩ := State.encode_eq_record c
  obtain ⟨evs, rs, cs, ⟨hev, hrs, -⟩, happly⟩ :=
    hf.apply_records s s.pending (s.events ++ tx) s.results (s.trace ++ ccs)
  have hpending := hf.pending s
  have hfirst : exec (.encode c) s = .next (s.encode c) := rfl
  have hafter : f (s.encode c) = { f s with events := s.events ++ tx ++ evs, trace := s.trace ++ ccs ++ cs } := by
    rw [henc, happly, ← hpending, ← hrs]
  refine ⟨s.encode c, f s, f (s.encode c), (f s).encode c, tx, evs, hfirst, ?_, ?_, he s, hev, ?_, ?_, ?_, ?_, ?_⟩
  · rw [henc]
  · rw [henc]
  · rw [runAll_cons_of_exec hfirst, runAll_cons_of_exec (he _), runAll]
  · rw [hafter]
  · rw [runAll_cons_of_exec (he s), runAll_cons_of_exec (t := (f s).encode c) rfl, runAll]
  · rw [henc, hev]
  · rw [hafter, henc]

/-! ### FEED and its expansion (R136) -/

theorem decodeHostop_hostWord_rxByte (b : Byte) (now : Timestamp) :
    decodeHostop (hostWord 1 b now) = .rxByte b now := by
  rw [decodeHostop_rxByte (opField_hostWord 1 b now), dataField_hostWord, nowField_hostWord]

/-- A run of the machine goes on from the state that its first step leaves. -/
theorem run_succ_of_step {s t : State} (h : step s = .next t) (n : Nat) :
    Host.Core.run Sys2Proof.core (n + 1) s = Host.Core.run Sys2Proof.core n t := by
  have hcore : Sys2Proof.core.step s = .next t := h
  simp only [Host.Core.run, hcore]

/-- RX_BYTE neither reads nor writes what is pending. -/
theorem State.rxByte_setPending (s : State) (b : Byte) (now : Timestamp) (pending : List Issue) :
    State.rxByte { s with pending := pending } b now = { s.rxByte b now with pending := pending } := by
  obtain ⟨evs, rs, cs, ⟨hev, hrs, hcs⟩, happly⟩ :=
    (Effect.rxByte b now).apply_records s pending s.events s.results s.trace
  rw [← hev, ← hrs, ← hcs] at happly
  exact happly

/-- The RX_BYTEs of FEED, one after the other. -/
theorem runAll_rxBytes (bytes : List Byte) (now : Timestamp) (s : State) :
    runAll (bytes.map fun b => .rxByte b now) s = .next (s.feed bytes now) := by
  induction bytes generalizing s with
  | nil => rfl
  | cons b bytes ih => rw [List.map_cons, runAll_cons_of_exec (t := s.rxByte b now) rfl, ih, State.feed_cons]

/-- The RX_BYTE words of FEED issued before what is pending, one step each. -/
theorem run_rxByte_words (bytes : List Byte) (now : Timestamp) (s : State) :
    Host.Core.run Sys2Proof.core bytes.length
      { s with pending := (bytes.map fun b => .hostop (hostWord 1 b now)) ++ s.pending } = .next (s.feed bytes now) := by
  induction bytes generalizing s with
  | nil => rfl
  | cons b bytes ih =>
    let rest : List Issue := (bytes.map fun b => .hostop (hostWord 1 b now)) ++ s.pending
    have hdecode : decode s.cfg.rcType (.hostop (hostWord 1 b now)) = .ok (.rxByte b now) :=
      congrArg _ (decodeHostop_hostWord_rxByte b now)
    let issued : State := { s with pending := .hostop (hostWord 1 b now) :: rest }
    have hstep : step issued = .next { s.rxByte b now with pending := rest } :=
      (step_of_decode_ok (s := issued) rfl hdecode).trans
        (congrArg Host.Outcome.next (s.rxByte_setPending b now rest))
    have hih := ih (s.rxByte b now)
    rw [State.rxByte_pending] at hih
    exact (run_succ_of_step hstep bytes.length).trans hih

/-- Settles O38: FEED is the fold of RX_BYTE, run as instructions, as words, or in two parts. -/
theorem feedIsItsExpansion : Obligations.FeedIsItsExpansion := by
  refine fun s bytes now => ⟨(runAll_rxBytes bytes now s).symm, run_rxByte_words bytes now s, rfl, fun k => ?_⟩
  have hfeed (part : List Byte) (u : State) : exec (.feed part now) u = .next (u.feed part now) := rfl
  rw [runAll_cons_of_exec (hfeed _ s), runAll_cons_of_exec (hfeed _ _), runAll, hfeed, ← State.feed_append,
    List.take_append_drop]

end Sys2Proof.Machine
end

section
/-! The host operations POLL, SET_UART and NOP (45_engine_ops.md R134, R135, R137), and the step that runs them (R130). -/

namespace Sys2Proof.Machine

/-- Settles O3: the three rows answer their own state, and their operation codes select them. -/
theorem nopAndReservedOperationsChangeNothing : Obligations.NopAndReservedOperationsChangeNothing :=
  ⟨fun _ => ⟨rfl, rfl, rfl⟩, fun _ _ => ⟨fun hop => congrArg _ (decodeHostop_nop hop),
    fun hop => congrArg _ (decodeHostop_reserved6 hop), fun hop => congrArg _ (decodeHostop_reserved7 hop)⟩⟩

/-- Settles O4. -/
theorem setUartWritesOnlyItsFlag : Obligations.SetUartWritesOnlyItsFlag :=
  ⟨fun _ _ => rfl, fun _ _ hop => congrArg _ (decodeHostop_setUart hop)⟩

/-- Settles O5, by the two cases of the decoder's answer. -/
theorem stepRunsTheDecodedInstruction : Obligations.StepRunsTheDecodedInstruction :=
  fun _ _ _ hp => ⟨fun _ hd => step_of_decode_ok hp hd, fun _ hd => step_of_decode_error hp hd⟩

/-- POLL, all fields (R134). -/
theorem State.poll_eq_record (s : State) (now : Timestamp) : s.poll now =
    { s with
      linkUp := s.isConnected now
      events := s.events ++ expiryEvents s now
      results := s.results ++ [.connected (s.isConnected now)] } := by
  rw [State.poll_eq_respond, State.timecheck_eq_record]
  rfl

/-- Settles O42: TIMECHECK's record and the value returned; in the example 1000 ticks have passed, the whole timeout. -/
theorem pollReportsAndDetectsTheEdge : Obligations.PollReportsAndDetectsTheEdge := by
  refine ⟨fun now s => congrArg _ (s.poll_eq_record now), fun now s hdown => congrArg _ (State.poll_of_down hdown now),
    fun s hup hrx hto => congrArg _ (State.poll_of_expired hup ?_)⟩
  have helapsed : s.isConnected (s.lastRx + 1000) = false := by
    rw [State.isConnected_lastRx_add hup, hto]
    rfl
  rwa [hrx] at helapsed

end Sys2Proof.Machine
end

section
/-! Totality (60_exceptions.md R145, R163): every instruction answers a next state, a step whose operation decodes takes just that
operation, and every operation word decodes (30_encoding.md R57). -/

namespace Sys2Proof.Machine

/-- Where the operation issued first decodes, the step answers a next state, with what was issued after it still pending. -/
theorem step_takes_of_decode_ok {s : State} {q : Issue} {rest : List Issue} {i : Instr} (hp : s.pending = q :: rest)
    (hd : decode s.cfg.rcType q = .ok i) : ∃ t, step s = .next t ∧ t.pending = rest := by
  obtain ⟨f, hf, hexec⟩ := exec_effect i
  exact ⟨_, (step_of_decode_ok hp hd).trans (hexec _), hf.pending _⟩

/-- Settles O7: every instruction has one of the kinds of effect, an operation word always decodes, and `Fault` has no
constructor. -/
theorem operationsNeverFaultAndAreNeverRefused : Obligations.OperationsNeverFaultAndAreNeverRefused := by
  refine ⟨fun i s => ?_, fun s h rest hp => ?_, nofun⟩
  · obtain ⟨f, -, hexec⟩ := exec_effect i
    exact ⟨f s, hexec s⟩
  · have hdecode : decode s.cfg.rcType (.hostop h) = .ok (decodeHostop h) := rfl
    exact step_takes_of_decode_ok hp hdecode

end Sys2Proof.Machine
end

section
/-! RESET (70_reset_and_hazards.md R165) and the step with nothing issued (R173). In R165's worked example the rest of the cut
frame is two bytes, of which the first is no address. -/

namespace Sys2Proof.Machine

/-- RX_BYTE where the loop waited before and the link is down: TIMECHECK finds no edge. -/
theorem State.rxByte_of_down {s : State} (hw : Waits s.buf) (hdown : s.linkUp = false) (b : Byte) (now : Timestamp) :
    s.rxByte b now = State.parse { s with buf := s.buf ++ [b] } now := by
  rw [State.rxByte_eq_parse hw, State.timecheck_of_down hdown]

/-- Two bytes into an empty buffer with the link down, the first no address: it is discarded when the second arrives, and no event
is emitted. -/
theorem State.feed_badAddress_of_down {s : State} {x : Byte} (hx : isRecognized x = false) (hbuf : s.buf = [])
    (hdown : s.linkUp = false) (b : Byte) (now : Timestamp) :
    s.feed [x, b] now = { s with buf := [b], trace := s.trace ++ [.badAddress x] } := by
  have hshort (y : Byte) : Waits [y] := waits_of_length_lt Nat.one_lt_two
  have hfirst : s.rxByte x now = { s with buf := [x] } := by
    rw [State.rxByte_of_down (waits_of_length_lt (by simp [hbuf])) hdown, hbuf]
    exact State.parse_of_waits (hshort x) now
  have hsecond : State.rxByte { s with buf := [x] } b now = State.parse { s with buf := [x, b] } now :=
    State.rxByte_of_down (s := { s with buf := [x] }) (hshort x) hdown b now
  rw [State.feed_cons, State.feed_cons, State.feed_nil, hfirst, hsecond, State.parse_eq_parse_runTurn,
    parseTurn_of_badAddress hx]
  exact State.parse_of_waits (hshort b) now

/-- Settles O2: RESET is `State.resetEngine`; in the example the engine it leaves discards 0x02 and waits at 0x71. -/
theorem resetOperationClearsTheEngine : Obligations.ResetOperationClearsTheEngine := by
  refine ⟨fun s => ⟨_, _, rfl⟩, fun _ => rfl, fun _ _ hop => congrArg _ (decodeHostop_reset hop), fun s now _ _ => ?_⟩
  have hreset : exec .reset s = .next s.resetEngine := rfl
  have hfeed : exec (.feed [0x02, 0x71] now) s.resetEngine = .next (s.resetEngine.feed [0x02, 0x71] now) := rfl
  refine ⟨_, (runAll_cons_of_exec hreset _).trans (runAll_cons_of_exec hfeed _), ?_⟩
  rw [State.feed_badAddress_of_down (by decide) s.resetEngine_buf s.resetEngine_linkUp]
  exact ⟨rfl, rfl, rfl⟩

/-- Settles O6. -/
theorem stepWithNothingIssuedChangesNothing : Obligations.StepWithNothingIssuedChangesNothing :=
  fun _ hp => step_of_pending_nil hp

end Sys2Proof.Machine
end
